-- ==== Sys2Proof/Word.lean ====
section
/-! DEFINITION. The two word types of the block: 8-bit data and 16-bit addresses (spec/00_scope.md R5).
Byte order, extension and page arithmetic stand in Decode.lean and Machine/, where a repair may mend them. -/

namespace Sys2Proof

/-- One data byte (R5). -/
abbrev Byte := BitVec 8

/-- One CPU address (R5). -/
abbrev Addr := BitVec 16

end Sys2Proof
end

