-- ==== Sys2Proof/Config.lean ====
section
/-! DEFINITION. What one machine fixes (the named parameters of spec/00_scope.md R6) and the free values.
The parameters that a step consults are the record `Params`, which `State` carries and no step changes (log 4);
`wramInit`, `bootPc` and the cartridge are arguments of `boot` (Machine/Boot.lean). -/

namespace Sys2Proof

/-- The two admitted PRG-ROM sizes (R59, D21). -/
inductive BankSize where
  | k16
  | k32
  deriving DecidableEq, Repr

/-- `bank_size` in bytes (R59). -/
def BankSize.bytes : BankSize → Nat
  | .k16 => 16384
  | .k32 => 32768

/-- What a write to 0x8000-0xFFFF does (R60, D20). -/
inductive PrgWritePolicy where
  | ignore
  | fault
  deriving DecidableEq, Repr

/-- The parameter `bootPc` (R292). -/
inductive BootPc where
  | resetVector
  | fixed (v : Addr)
  deriving DecidableEq, Repr

/-- Whether a PPU access is a read or a write (R57). -/
inductive BusKind where
  | read
  | write
  deriving DecidableEq, Repr

/-- One PPU access as the bus history records it: `(kind, r, v)` (R57). -/
structure BusEvent where
  kind  : BusKind
  reg   : BitVec 3
  value : Byte
  deriving DecidableEq, Repr

/-- The opcode values that have a table entry, by the rows of the opcode map: all but the 29 that R84 lists. -/
def tableOpcodes : List Byte :=
  [0x00, 0x01, 0x03, 0x04, 0x05, 0x06, 0x07, 0x08, 0x09, 0x0A, 0x0C, 0x0D, 0x0E, 0x0F] ++
  [0x10, 0x11, 0x13, 0x14, 0x15, 0x16, 0x17, 0x18, 0x19, 0x1A, 0x1B, 0x1C, 0x1D, 0x1E, 0x1F] ++
  [0x20, 0x21, 0x23, 0x24, 0x25, 0x26, 0x27, 0x28, 0x29, 0x2A, 0x2C, 0x2D, 0x2E, 0x2F] ++
  [0x30, 0x31, 0x33, 0x34, 0x35, 0x36, 0x37, 0x38, 0x39, 0x3A, 0x3B, 0x3C, 0x3D, 0x3E, 0x3F] ++
  [0x40, 0x41, 0x43, 0x44, 0x45, 0x46, 0x47, 0x48, 0x49, 0x4A, 0x4C, 0x4D, 0x4E, 0x4F] ++
  [0x50, 0x51, 0x53, 0x54, 0x55, 0x56, 0x57, 0x58, 0x59, 0x5A, 0x5B, 0x5C, 0x5D, 0x5E, 0x5F] ++
  [0x60, 0x61, 0x63, 0x64, 0x65, 0x66, 0x67, 0x68, 0x69, 0x6A, 0x6C, 0x6D, 0x6E, 0x6F] ++
  [0x70, 0x71, 0x73, 0x74, 0x75, 0x76, 0x77, 0x78, 0x79, 0x7A, 0x7B, 0x7C, 0x7D, 0x7E, 0x7F] ++
  [0x80, 0x81, 0x83, 0x84, 0x85, 0x86, 0x87, 0x88, 0x8A, 0x8C, 0x8D, 0x8E, 0x8F] ++
  [0x90, 0x91, 0x94, 0x95, 0x96, 0x97, 0x98, 0x99, 0x9A, 0x9D] ++
  [0xA0, 0xA1, 0xA2, 0xA3, 0xA4, 0xA5, 0xA6, 0xA7, 0xA8, 0xA9, 0xAA, 0xAC, 0xAD, 0xAE, 0xAF] ++
  [0xB0, 0xB1, 0xB3, 0xB4, 0xB5, 0xB6, 0xB7, 0xB8, 0xB9, 0xBA, 0xBC, 0xBD, 0xBE, 0xBF] ++
  [0xC0, 0xC1, 0xC3, 0xC4, 0xC5, 0xC6, 0xC7, 0xC8, 0xC9, 0xCA, 0xCC, 0xCD, 0xCE, 0xCF] ++
  [0xD0, 0xD1, 0xD3, 0xD4, 0xD5, 0xD6, 0xD7, 0xD8, 0xD9, 0xDA, 0xDB, 0xDC, 0xDD, 0xDE, 0xDF] ++
  [0xE0, 0xE1, 0xE3, 0xE4, 0xE5, 0xE6, 0xE7, 0xE8, 0xE9, 0xEA, 0xEB, 0xEC, 0xED, 0xEE, 0xEF] ++
  [0xF0, 0xF1, 0xF3, 0xF4, 0xF5, 0xF6, 0xF7, 0xF8, 0xF9, 0xFA, 0xFB, 0xFC, 0xFD, 0xFE, 0xFF]

/-- The parameters of R6 that a step consults. -/
structure Params where
  /-- `ImplementedOpcodes` (R84, D4). -/
  implementedOpcodes  : List Byte
  /-- `bank_size` (R59, D21). -/
  bankSize            : BankSize
  /-- `jmpIndirectPageWrap` (R112, D12). -/
  jmpIndirectPageWrap : Bool
  /-- `prgWritePolicy` (R60, D20). -/
  prgWritePolicy      : PrgWritePolicy
  deriving DecidableEq, Repr

/-- The defaults of R6; the bank size is the loaded cartridge's (log 2 says why State.reset has 16 KiB). -/
def Params.default : Params where
  implementedOpcodes  := tableOpcodes
  bankSize            := .k16
  jmpIndirectPageWrap := true
  prgWritePolicy      := .ignore

/-- FREE VALUE. The oracle `ppuRead(r, history, choice)` of R57: nothing is known of it (D19, log 5). -/
opaque Config.ppuRead : BitVec 3 → List BusEvent → Nat → Byte

/-- FREE VALUE. The byte that a trace line shows, and is compared by, for a peek reported as unspecified (R272, R277, I14),
given the peeked address and the line's CYC (log 9). -/
opaque Config.unspecifiedPeek : Addr → Nat → Byte

end Sys2Proof
end

