-- ==== Sys2Proof/Syntax.lean ====
section
/-! DEFINITION. The instruction set as syntax: addressing modes (spec/40_addressing.md), mnemonics
(spec/30_encoding.md R89) and one constructor of `Instr` for each of the 227 rows of spec/opcode_table.json,
in opcode order. A constructor carries its operand: `v` an immediate, `z` a zero-page byte, `off` a branch
offset, `w` a 16-bit word. The rows of one mnemonic that share a mode are told apart by their opcode in hex. -/

namespace Sys2Proof

/-- The thirteen addressing modes (R100). -/
inductive Mode where
  | implied
  | accumulator
  | immediate
  | zeroPage
  | zeroPageX
  | zeroPageY
  | absolute
  | absoluteX
  | absoluteY
  | indirect
  | indexedIndirectX
  | indirectIndexedY
  | relative
  deriving DecidableEq, Repr

/-- The eight modes that name a data byte in memory, with their operand field (R82, R103 to R111). -/
inductive MemMode where
  | zeroPage (z : Byte)
  | zeroPageX (z : Byte)
  | zeroPageY (z : Byte)
  | absolute (w : Addr)
  | absoluteX (w : Addr)
  | absoluteY (w : Addr)
  | indexedIndirectX (z : Byte)
  | indirectIndexedY (z : Byte)
  deriving DecidableEq, Repr

/-- An instruction's operand. `target` is the Absolute mode of JMP and JSR, which use the address and do not
read there (R107); `indirect` is JMP's pointer (R112). -/
inductive Operand where
  | implied
  | accumulator
  | immediate (v : Byte)
  | memory (m : MemMode)
  | target (w : Addr)
  | indirect (w : Addr)
  | relative (off : Byte)
  deriving DecidableEq, Repr

/-- The 56 official mnemonics and the 10 unofficial ones (R89); `uNop` and `uSbc` are *NOP and *SBC. -/
inductive Mnemonic where
  | lda | ldx | ldy | sta | stx | sty | tax | tay | txa | tya | tsx
  | txs | adc | sbc | and | ora | eor | bit | cmp | cpx | cpy | inc
  | dec | inx | iny | dex | dey | asl | lsr | rol | ror | pha | php
  | pla | plp | jmp | jsr | rts | rti | brk | bcc | bcs | beq | bne
  | bmi | bpl | bvc | bvs | clc | sec | cli | sei | cld | sed | clv
  | nop | uNop | lax | sax | uSbc | dcp | isb | slo | rla | sre | rra
  deriving DecidableEq, Repr

/-- The instructions: one constructor per row of spec/opcode_table.json, in opcode order. -/
inductive Instr where
  | brk
  | oraIndX (z : Byte)
  | sloIndX (z : Byte)
  | uNopZp04 (z : Byte)
  | oraZp (z : Byte)
  | aslZp (z : Byte)
  | sloZp (z : Byte)
  | php
  | oraImm (v : Byte)
  | aslAcc
  | uNopAbs0C (w : Addr)
  | oraAbs (w : Addr)
  | aslAbs (w : Addr)
  | sloAbs (w : Addr)
  | bpl (off : Byte)
  | oraIndY (z : Byte)
  | sloIndY (z : Byte)
  | uNopZpX14 (z : Byte)
  | oraZpX (z : Byte)
  | aslZpX (z : Byte)
  | sloZpX (z : Byte)
  | clc
  | oraAbsY (w : Addr)
  | uNop1A
  | sloAbsY (w : Addr)
  | uNopAbsX1C (w : Addr)
  | oraAbsX (w : Addr)
  | aslAbsX (w : Addr)
  | sloAbsX (w : Addr)
  | jsr (w : Addr)
  | andIndX (z : Byte)
  | rlaIndX (z : Byte)
  | bitZp (z : Byte)
  | andZp (z : Byte)
  | rolZp (z : Byte)
  | rlaZp (z : Byte)
  | plp
  | andImm (v : Byte)
  | rolAcc
  | bitAbs (w : Addr)
  | andAbs (w : Addr)
  | rolAbs (w : Addr)
  | rlaAbs (w : Addr)
  | bmi (off : Byte)
  | andIndY (z : Byte)
  | rlaIndY (z : Byte)
  | uNopZpX34 (z : Byte)
  | andZpX (z : Byte)
  | rolZpX (z : Byte)
  | rlaZpX (z : Byte)
  | sec
  | andAbsY (w : Addr)
  | uNop3A
  | rlaAbsY (w : Addr)
  | uNopAbsX3C (w : Addr)
  | andAbsX (w : Addr)
  | rolAbsX (w : Addr)
  | rlaAbsX (w : Addr)
  | rti
  | eorIndX (z : Byte)
  | sreIndX (z : Byte)
  | uNopZp44 (z : Byte)
  | eorZp (z : Byte)
  | lsrZp (z : Byte)
  | sreZp (z : Byte)
  | pha
  | eorImm (v : Byte)
  | lsrAcc
  | jmpAbs (w : Addr)
  | eorAbs (w : Addr)
  | lsrAbs (w : Addr)
  | sreAbs (w : Addr)
  | bvc (off : Byte)
  | eorIndY (z : Byte)
  | sreIndY (z : Byte)
  | uNopZpX54 (z : Byte)
  | eorZpX (z : Byte)
  | lsrZpX (z : Byte)
  | sreZpX (z : Byte)
  | cli
  | eorAbsY (w : Addr)
  | uNop5A
  | sreAbsY (w : Addr)
  | uNopAbsX5C (w : Addr)
  | eorAbsX (w : Addr)
  | lsrAbsX (w : Addr)
  | sreAbsX (w : Addr)
  | rts
  | adcIndX (z : Byte)
  | rraIndX (z : Byte)
  | uNopZp64 (z : Byte)
  | adcZp (z : Byte)
  | rorZp (z : Byte)
  | rraZp (z : Byte)
  | pla
  | adcImm (v : Byte)
  | rorAcc
  | jmpInd (w : Addr)
  | adcAbs (w : Addr)
  | rorAbs (w : Addr)
  | rraAbs (w : Addr)
  | bvs (off : Byte)
  | adcIndY (z : Byte)
  | rraIndY (z : Byte)
  | uNopZpX74 (z : Byte)
  | adcZpX (z : Byte)
  | rorZpX (z : Byte)
  | rraZpX (z : Byte)
  | sei
  | adcAbsY (w : Addr)
  | uNop7A
  | rraAbsY (w : Addr)
  | uNopAbsX7C (w : Addr)
  | adcAbsX (w : Addr)
  | rorAbsX (w : Addr)
  | rraAbsX (w : Addr)
  | uNopImm80 (v : Byte)
  | staIndX (z : Byte)
  | saxIndX (z : Byte)
  | styZp (z : Byte)
  | staZp (z : Byte)
  | stxZp (z : Byte)
  | saxZp (z : Byte)
  | dey
  | txa
  | styAbs (w : Addr)
  | staAbs (w : Addr)
  | stxAbs (w : Addr)
  | saxAbs (w : Addr)
  | bcc (off : Byte)
  | staIndY (z : Byte)
  | styZpX (z : Byte)
  | staZpX (z : Byte)
  | stxZpY (z : Byte)
  | saxZpY (z : Byte)
  | tya
  | staAbsY (w : Addr)
  | txs
  | staAbsX (w : Addr)
  | ldyImm (v : Byte)
  | ldaIndX (z : Byte)
  | ldxImm (v : Byte)
  | laxIndX (z : Byte)
  | ldyZp (z : Byte)
  | ldaZp (z : Byte)
  | ldxZp (z : Byte)
  | laxZp (z : Byte)
  | tay
  | ldaImm (v : Byte)
  | tax
  | ldyAbs (w : Addr)
  | ldaAbs (w : Addr)
  | ldxAbs (w : Addr)
  | laxAbs (w : Addr)
  | bcs (off : Byte)
  | ldaIndY (z : Byte)
  | laxIndY (z : Byte)
  | ldyZpX (z : Byte)
  | ldaZpX (z : Byte)
  | ldxZpY (z : Byte)
  | laxZpY (z : Byte)
  | clv
  | ldaAbsY (w : Addr)
  | tsx
  | ldyAbsX (w : Addr)
  | ldaAbsX (w : Addr)
  | ldxAbsY (w : Addr)
  | laxAbsY (w : Addr)
  | cpyImm (v : Byte)
  | cmpIndX (z : Byte)
  | dcpIndX (z : Byte)
  | cpyZp (z : Byte)
  | cmpZp (z : Byte)
  | decZp (z : Byte)
  | dcpZp (z : Byte)
  | iny
  | cmpImm (v : Byte)
  | dex
  | cpyAbs (w : Addr)
  | cmpAbs (w : Addr)
  | decAbs (w : Addr)
  | dcpAbs (w : Addr)
  | bne (off : Byte)
  | cmpIndY (z : Byte)
  | dcpIndY (z : Byte)
  | uNopZpXD4 (z : Byte)
  | cmpZpX (z : Byte)
  | decZpX (z : Byte)
  | dcpZpX (z : Byte)
  | cld
  | cmpAbsY (w : Addr)
  | uNopDA
  | dcpAbsY (w : Addr)
  | uNopAbsXDC (w : Addr)
  | cmpAbsX (w : Addr)
  | decAbsX (w : Addr)
  | dcpAbsX (w : Addr)
  | cpxImm (v : Byte)
  | sbcIndX (z : Byte)
  | isbIndX (z : Byte)
  | cpxZp (z : Byte)
  | sbcZp (z : Byte)
  | incZp (z : Byte)
  | isbZp (z : Byte)
  | inx
  | sbcImm (v : Byte)
  | nop
  | uSbcImm (v : Byte)
  | cpxAbs (w : Addr)
  | sbcAbs (w : Addr)
  | incAbs (w : Addr)
  | isbAbs (w : Addr)
  | beq (off : Byte)
  | sbcIndY (z : Byte)
  | isbIndY (z : Byte)
  | uNopZpXF4 (z : Byte)
  | sbcZpX (z : Byte)
  | incZpX (z : Byte)
  | isbZpX (z : Byte)
  | sed
  | sbcAbsY (w : Addr)
  | uNopFA
  | isbAbsY (w : Addr)
  | uNopAbsXFC (w : Addr)
  | sbcAbsX (w : Addr)
  | incAbsX (w : Addr)
  | isbAbsX (w : Addr)
  deriving DecidableEq, Repr

end Sys2Proof
end

