-- ==== Sys2Proof/Decode.lean ====
section
/-! DEFINITION. Byte helpers, the decoder (spec/30_encoding.md R80 to R84), and after it the opcode table as a
function of the instruction and the encoder. The decoder follows the 16 x 16 map of section 3 of that file: one
function per high nibble. The table (`Instr.row`) follows the per-opcode list below the map. -/

namespace Sys2Proof

/-- Low byte of a word (R9). -/
def lo (w : Addr) : Byte := w.setWidth 8

/-- High byte of a word (R9). -/
def hi (w : Addr) : Byte := (w >>> 8).setWidth 8

/-- The little-endian word of a low and a high byte (R9, R51). -/
def word (l h : Byte) : Addr := h ++ l

/-- Zero extension to 16 bits (R9). -/
def zext16 (b : Byte) : Addr := b.setWidth 16

/-- Sign extension to 16 bits (R9). -/
def sext16 (b : Byte) : Addr := b.signExtend 16

/-- An opcode's instruction short of its operand bytes (R80). -/
inductive Form where
  | none (i : Instr)
  | byte (mk : Byte → Instr)
  | word (mk : Addr → Instr)

/-- The instruction length a form has (R80). -/
def Form.length : Form → Nat
  | .none _ => 1
  | .byte _ => 2
  | .word _ => 3

/-- Row 0x of the opcode map (spec/30_encoding.md section 3); FATAL where no entry stands. -/
def formRow0 : Nat → Option Form
  | 0x0 => some (.none .brk)
  | 0x1 => some (.byte .oraIndX)
  | 0x3 => some (.byte .sloIndX)
  | 0x4 => some (.byte .uNopZp04)
  | 0x5 => some (.byte .oraZp)
  | 0x6 => some (.byte .aslZp)
  | 0x7 => some (.byte .sloZp)
  | 0x8 => some (.none .php)
  | 0x9 => some (.byte .oraImm)
  | 0xA => some (.none .aslAcc)
  | 0xC => some (.word .uNopAbs0C)
  | 0xD => some (.word .oraAbs)
  | 0xE => some (.word .aslAbs)
  | 0xF => some (.word .sloAbs)
  | _ => none

/-- Row 1x of the opcode map (spec/30_encoding.md section 3); FATAL where no entry stands. -/
def formRow1 : Nat → Option Form
  | 0x0 => some (.byte .bpl)
  | 0x1 => some (.byte .oraIndY)
  | 0x3 => some (.byte .sloIndY)
  | 0x4 => some (.byte .uNopZpX14)
  | 0x5 => some (.byte .oraZpX)
  | 0x6 => some (.byte .aslZpX)
  | 0x7 => some (.byte .sloZpX)
  | 0x8 => some (.none .clc)
  | 0x9 => some (.word .oraAbsY)
  | 0xA => some (.none .uNop1A)
  | 0xB => some (.word .sloAbsY)
  | 0xC => some (.word .uNopAbsX1C)
  | 0xD => some (.word .oraAbsX)
  | 0xE => some (.word .aslAbsX)
  | 0xF => some (.word .sloAbsX)
  | _ => none

/-- Row 2x of the opcode map (spec/30_encoding.md section 3); FATAL where no entry stands. -/
def formRow2 : Nat → Option Form
  | 0x0 => some (.word .jsr)
  | 0x1 => some (.byte .andIndX)
  | 0x3 => some (.byte .rlaIndX)
  | 0x4 => some (.byte .bitZp)
  | 0x5 => some (.byte .andZp)
  | 0x6 => some (.byte .rolZp)
  | 0x7 => some (.byte .rlaZp)
  | 0x8 => some (.none .plp)
  | 0x9 => some (.byte .andImm)
  | 0xA => some (.none .rolAcc)
  | 0xC => some (.word .bitAbs)
  | 0xD => some (.word .andAbs)
  | 0xE => some (.word .rolAbs)
  | 0xF => some (.word .rlaAbs)
  | _ => none

/-- Row 3x of the opcode map (spec/30_encoding.md section 3); FATAL where no entry stands. -/
def formRow3 : Nat → Option Form
  | 0x0 => some (.byte .bmi)
  | 0x1 => some (.byte .andIndY)
  | 0x3 => some (.byte .rlaIndY)
  | 0x4 => some (.byte .uNopZpX34)
  | 0x5 => some (.byte .andZpX)
  | 0x6 => some (.byte .rolZpX)
  | 0x7 => some (.byte .rlaZpX)
  | 0x8 => some (.none .sec)
  | 0x9 => some (.word .andAbsY)
  | 0xA => some (.none .uNop3A)
  | 0xB => some (.word .rlaAbsY)
  | 0xC => some (.word .uNopAbsX3C)
  | 0xD => some (.word .andAbsX)
  | 0xE => some (.word .rolAbsX)
  | 0xF => some (.word .rlaAbsX)
  | _ => none

/-- Row 4x of the opcode map (spec/30_encoding.md section 3); FATAL where no entry stands. -/
def formRow4 : Nat → Option Form
  | 0x0 => some (.none .rti)
  | 0x1 => some (.byte .eorIndX)
  | 0x3 => some (.byte .sreIndX)
  | 0x4 => some (.byte .uNopZp44)
  | 0x5 => some (.byte .eorZp)
  | 0x6 => some (.byte .lsrZp)
  | 0x7 => some (.byte .sreZp)
  | 0x8 => some (.none .pha)
  | 0x9 => some (.byte .eorImm)
  | 0xA => some (.none .lsrAcc)
  | 0xC => some (.word .jmpAbs)
  | 0xD => some (.word .eorAbs)
  | 0xE => some (.word .lsrAbs)
  | 0xF => some (.word .sreAbs)
  | _ => none

/-- Row 5x of the opcode map (spec/30_encoding.md section 3); FATAL where no entry stands. -/
def formRow5 : Nat → Option Form
  | 0x0 => some (.byte .bvc)
  | 0x1 => some (.byte .eorIndY)
  | 0x3 => some (.byte .sreIndY)
  | 0x4 => some (.byte .uNopZpX54)
  | 0x5 => some (.byte .eorZpX)
  | 0x6 => some (.byte .lsrZpX)
  | 0x7 => some (.byte .sreZpX)
  | 0x8 => some (.none .cli)
  | 0x9 => some (.word .eorAbsY)
  | 0xA => some (.none .uNop5A)
  | 0xB => some (.word .sreAbsY)
  | 0xC => some (.word .uNopAbsX5C)
  | 0xD => some (.word .eorAbsX)
  | 0xE => some (.word .lsrAbsX)
  | 0xF => some (.word .sreAbsX)
  | _ => none

/-- Row 6x of the opcode map (spec/30_encoding.md section 3); FATAL where no entry stands. -/
def formRow6 : Nat → Option Form
  | 0x0 => some (.none .rts)
  | 0x1 => some (.byte .adcIndX)
  | 0x3 => some (.byte .rraIndX)
  | 0x4 => some (.byte .uNopZp64)
  | 0x5 => some (.byte .adcZp)
  | 0x6 => some (.byte .rorZp)
  | 0x7 => some (.byte .rraZp)
  | 0x8 => some (.none .pla)
  | 0x9 => some (.byte .adcImm)
  | 0xA => some (.none .rorAcc)
  | 0xC => some (.word .jmpInd)
  | 0xD => some (.word .adcAbs)
  | 0xE => some (.word .rorAbs)
  | 0xF => some (.word .rraAbs)
  | _ => none

/-- Row 7x of the opcode map (spec/30_encoding.md section 3); FATAL where no entry stands. -/
def formRow7 : Nat → Option Form
  | 0x0 => some (.byte .bvs)
  | 0x1 => some (.byte .adcIndY)
  | 0x3 => some (.byte .rraIndY)
  | 0x4 => some (.byte .uNopZpX74)
  | 0x5 => some (.byte .adcZpX)
  | 0x6 => some (.byte .rorZpX)
  | 0x7 => some (.byte .rraZpX)
  | 0x8 => some (.none .sei)
  | 0x9 => some (.word .adcAbsY)
  | 0xA => some (.none .uNop7A)
  | 0xB => some (.word .rraAbsY)
  | 0xC => some (.word .uNopAbsX7C)
  | 0xD => some (.word .adcAbsX)
  | 0xE => some (.word .rorAbsX)
  | 0xF => some (.word .rraAbsX)
  | _ => none

/-- Row 8x of the opcode map (spec/30_encoding.md section 3); FATAL where no entry stands. -/
def formRow8 : Nat → Option Form
  | 0x0 => some (.byte .uNopImm80)
  | 0x1 => some (.byte .staIndX)
  | 0x3 => some (.byte .saxIndX)
  | 0x4 => some (.byte .styZp)
  | 0x5 => some (.byte .staZp)
  | 0x6 => some (.byte .stxZp)
  | 0x7 => some (.byte .saxZp)
  | 0x8 => some (.none .dey)
  | 0xA => some (.none .txa)
  | 0xC => some (.word .styAbs)
  | 0xD => some (.word .staAbs)
  | 0xE => some (.word .stxAbs)
  | 0xF => some (.word .saxAbs)
  | _ => none

/-- Row 9x of the opcode map (spec/30_encoding.md section 3); FATAL where no entry stands. -/
def formRow9 : Nat → Option Form
  | 0x0 => some (.byte .bcc)
  | 0x1 => some (.byte .staIndY)
  | 0x4 => some (.byte .styZpX)
  | 0x5 => some (.byte .staZpX)
  | 0x6 => some (.byte .stxZpY)
  | 0x7 => some (.byte .saxZpY)
  | 0x8 => some (.none .tya)
  | 0x9 => some (.word .staAbsY)
  | 0xA => some (.none .txs)
  | 0xD => some (.word .staAbsX)
  | _ => none

/-- Row Ax of the opcode map (spec/30_encoding.md section 3); FATAL where no entry stands. -/
def formRowA : Nat → Option Form
  | 0x0 => some (.byte .ldyImm)
  | 0x1 => some (.byte .ldaIndX)
  | 0x2 => some (.byte .ldxImm)
  | 0x3 => some (.byte .laxIndX)
  | 0x4 => some (.byte .ldyZp)
  | 0x5 => some (.byte .ldaZp)
  | 0x6 => some (.byte .ldxZp)
  | 0x7 => some (.byte .laxZp)
  | 0x8 => some (.none .tay)
  | 0x9 => some (.byte .ldaImm)
  | 0xA => some (.none .tax)
  | 0xC => some (.word .ldyAbs)
  | 0xD => some (.word .ldaAbs)
  | 0xE => some (.word .ldxAbs)
  | 0xF => some (.word .laxAbs)
  | _ => none

/-- Row Bx of the opcode map (spec/30_encoding.md section 3); FATAL where no entry stands. -/
def formRowB : Nat → Option Form
  | 0x0 => some (.byte .bcs)
  | 0x1 => some (.byte .ldaIndY)
  | 0x3 => some (.byte .laxIndY)
  | 0x4 => some (.byte .ldyZpX)
  | 0x5 => some (.byte .ldaZpX)
  | 0x6 => some (.byte .ldxZpY)
  | 0x7 => some (.byte .laxZpY)
  | 0x8 => some (.none .clv)
  | 0x9 => some (.word .ldaAbsY)
  | 0xA => some (.none .tsx)
  | 0xC => some (.word .ldyAbsX)
  | 0xD => some (.word .ldaAbsX)
  | 0xE => some (.word .ldxAbsY)
  | 0xF => some (.word .laxAbsY)
  | _ => none

/-- Row Cx of the opcode map (spec/30_encoding.md section 3); FATAL where no entry stands. -/
def formRowC : Nat → Option Form
  | 0x0 => some (.byte .cpyImm)
  | 0x1 => some (.byte .cmpIndX)
  | 0x3 => some (.byte .dcpIndX)
  | 0x4 => some (.byte .cpyZp)
  | 0x5 => some (.byte .cmpZp)
  | 0x6 => some (.byte .decZp)
  | 0x7 => some (.byte .dcpZp)
  | 0x8 => some (.none .iny)
  | 0x9 => some (.byte .cmpImm)
  | 0xA => some (.none .dex)
  | 0xC => some (.word .cpyAbs)
  | 0xD => some (.word .cmpAbs)
  | 0xE => some (.word .decAbs)
  | 0xF => some (.word .dcpAbs)
  | _ => none

/-- Row Dx of the opcode map (spec/30_encoding.md section 3); FATAL where no entry stands. -/
def formRowD : Nat → Option Form
  | 0x0 => some (.byte .bne)
  | 0x1 => some (.byte .cmpIndY)
  | 0x3 => some (.byte .dcpIndY)
  | 0x4 => some (.byte .uNopZpXD4)
  | 0x5 => some (.byte .cmpZpX)
  | 0x6 => some (.byte .decZpX)
  | 0x7 => some (.byte .dcpZpX)
  | 0x8 => some (.none .cld)
  | 0x9 => some (.word .cmpAbsY)
  | 0xA => some (.none .uNopDA)
  | 0xB => some (.word .dcpAbsY)
  | 0xC => some (.word .uNopAbsXDC)
  | 0xD => some (.word .cmpAbsX)
  | 0xE => some (.word .decAbsX)
  | 0xF => some (.word .dcpAbsX)
  | _ => none

/-- Row Ex of the opcode map (spec/30_encoding.md section 3); FATAL where no entry stands. -/
def formRowE : Nat → Option Form
  | 0x0 => some (.byte .cpxImm)
  | 0x1 => some (.byte .sbcIndX)
  | 0x3 => some (.byte .isbIndX)
  | 0x4 => some (.byte .cpxZp)
  | 0x5 => some (.byte .sbcZp)
  | 0x6 => some (.byte .incZp)
  | 0x7 => some (.byte .isbZp)
  | 0x8 => some (.none .inx)
  | 0x9 => some (.byte .sbcImm)
  | 0xA => some (.none .nop)
  | 0xB => some (.byte .uSbcImm)
  | 0xC => some (.word .cpxAbs)
  | 0xD => some (.word .sbcAbs)
  | 0xE => some (.word .incAbs)
  | 0xF => some (.word .isbAbs)
  | _ => none

/-- Row Fx of the opcode map (spec/30_encoding.md section 3); FATAL where no entry stands. -/
def formRowF : Nat → Option Form
  | 0x0 => some (.byte .beq)
  | 0x1 => some (.byte .sbcIndY)
  | 0x3 => some (.byte .isbIndY)
  | 0x4 => some (.byte .uNopZpXF4)
  | 0x5 => some (.byte .sbcZpX)
  | 0x6 => some (.byte .incZpX)
  | 0x7 => some (.byte .isbZpX)
  | 0x8 => some (.none .sed)
  | 0x9 => some (.word .sbcAbsY)
  | 0xA => some (.none .uNopFA)
  | 0xB => some (.word .isbAbsY)
  | 0xC => some (.word .uNopAbsXFC)
  | 0xD => some (.word .sbcAbsX)
  | 0xE => some (.word .incAbsX)
  | 0xF => some (.word .isbAbsX)
  | _ => none

/-- The opcode map: what an opcode byte selects, if it has a table entry (R81, R84). -/
def opcodeForm (op : Byte) : Option Form :=
  match op.toNat / 16 with
  | 0x0 => formRow0 (op.toNat % 16)
  | 0x1 => formRow1 (op.toNat % 16)
  | 0x2 => formRow2 (op.toNat % 16)
  | 0x3 => formRow3 (op.toNat % 16)
  | 0x4 => formRow4 (op.toNat % 16)
  | 0x5 => formRow5 (op.toNat % 16)
  | 0x6 => formRow6 (op.toNat % 16)
  | 0x7 => formRow7 (op.toNat % 16)
  | 0x8 => formRow8 (op.toNat % 16)
  | 0x9 => formRow9 (op.toNat % 16)
  | 0xA => formRowA (op.toNat % 16)
  | 0xB => formRowB (op.toNat % 16)
  | 0xC => formRowC (op.toNat % 16)
  | 0xD => formRowD (op.toNat % 16)
  | 0xE => formRowE (op.toNat % 16)
  | 0xF => formRowF (op.toNat % 16)
  | _ => none

/-- The length of the instruction an opcode starts, learned from that byte alone (R83). -/
def instrLength (op : Byte) : Option Nat := (opcodeForm op).map Form.length

/-- Why bytes are no instruction. -/
inductive DecodeError where
  /-- The opcode has no table entry (R84). -/
  | unimplemented (op : Byte)
  /-- The bytes end before the instruction does. -/
  | truncated
  deriving DecidableEq, Repr

/-- The decoder: the first instruction of the bytes and the bytes after it (R80, R82, R83). -/
def decode : List Byte → Except DecodeError (Instr × List Byte)
  | [] => .error .truncated
  | op :: rest =>
    match opcodeForm op, rest with
    | none, _ => .error (.unimplemented op)
    | some (.none i), rest => .ok (i, rest)
    | some (.byte mk), b1 :: rest => .ok (mk b1, rest)
    | some (.word mk), b1 :: b2 :: rest => .ok (mk (word b1 b2), rest)
    | some _, _ => .error .truncated

/-- The instruction whose bits are `w`, bit 0 being bit 0 of the first byte; the bits above `nbits` are 0. -/
def tableBytes (nbits w : Nat) : List Byte :=
  let w := w % 2 ^ nbits
  [BitVec.ofNat 8 w, BitVec.ofNat 8 (w / 256), BitVec.ofNat 8 (w / 65536)]

/-- The instruction the decoder reads from a word numbered as spec/opcode_table.json numbers it. -/
def decodeTableWord (nbits w : Nat) : Option Instr :=
  match decode (tableBytes nbits w) with
  | .ok (i, _) => some i
  | .error _ => none

/-- The mode of an operand (R100, R107). -/
def Operand.mode : Operand → Mode
  | .implied => .implied
  | .accumulator => .accumulator
  | .immediate _ => .immediate
  | .memory (.zeroPage _) => .zeroPage
  | .memory (.zeroPageX _) => .zeroPageX
  | .memory (.zeroPageY _) => .zeroPageY
  | .memory (.absolute _) => .absolute
  | .memory (.absoluteX _) => .absoluteX
  | .memory (.absoluteY _) => .absoluteY
  | .memory (.indexedIndirectX _) => .indexedIndirectX
  | .memory (.indirectIndexedY _) => .indirectIndexedY
  | .target _ => .absolute
  | .indirect _ => .indirect
  | .relative _ => .relative

/-- The length of an instruction as a function of its mode (R80). -/
def Mode.length : Mode → Nat
  | .implied | .accumulator => 1
  | .immediate | .zeroPage | .zeroPageX | .zeroPageY | .indexedIndirectX | .indirectIndexedY | .relative => 2
  | .absolute | .absoluteX | .absoluteY | .indirect => 3

/-- One row of the opcode table, for one operand (R81). -/
structure Row where
  opcode     : Byte
  mnemonic   : Mnemonic
  operand    : Operand
  /-- The base cycle cost. -/
  baseCycles : Nat
  /-- Whether the page-cross penalty of R117 applies. -/
  pageCross  : Bool
  deriving DecidableEq, Repr

/-- The opcode table (R81, R92), row by row as spec/30_encoding.md section 3 lists it. -/
def Instr.row : Instr → Row
  | .brk => ⟨0x00, .brk, .implied, 7, false⟩
  | .oraIndX z => ⟨0x01, .ora, .memory (.indexedIndirectX z), 6, false⟩
  | .sloIndX z => ⟨0x03, .slo, .memory (.indexedIndirectX z), 8, false⟩
  | .uNopZp04 z => ⟨0x04, .uNop, .memory (.zeroPage z), 3, false⟩
  | .oraZp z => ⟨0x05, .ora, .memory (.zeroPage z), 3, false⟩
  | .aslZp z => ⟨0x06, .asl, .memory (.zeroPage z), 5, false⟩
  | .sloZp z => ⟨0x07, .slo, .memory (.zeroPage z), 5, false⟩
  | .php => ⟨0x08, .php, .implied, 3, false⟩
  | .oraImm v => ⟨0x09, .ora, .immediate v, 2, false⟩
  | .aslAcc => ⟨0x0A, .asl, .accumulator, 2, false⟩
  | .uNopAbs0C w => ⟨0x0C, .uNop, .memory (.absolute w), 4, false⟩
  | .oraAbs w => ⟨0x0D, .ora, .memory (.absolute w), 4, false⟩
  | .aslAbs w => ⟨0x0E, .asl, .memory (.absolute w), 6, false⟩
  | .sloAbs w => ⟨0x0F, .slo, .memory (.absolute w), 6, false⟩
  | .bpl off => ⟨0x10, .bpl, .relative off, 2, false⟩
  | .oraIndY z => ⟨0x11, .ora, .memory (.indirectIndexedY z), 5, true⟩
  | .sloIndY z => ⟨0x13, .slo, .memory (.indirectIndexedY z), 8, false⟩
  | .uNopZpX14 z => ⟨0x14, .uNop, .memory (.zeroPageX z), 4, false⟩
  | .oraZpX z => ⟨0x15, .ora, .memory (.zeroPageX z), 4, false⟩
  | .aslZpX z => ⟨0x16, .asl, .memory (.zeroPageX z), 6, false⟩
  | .sloZpX z => ⟨0x17, .slo, .memory (.zeroPageX z), 6, false⟩
  | .clc => ⟨0x18, .clc, .implied, 2, false⟩
  | .oraAbsY w => ⟨0x19, .ora, .memory (.absoluteY w), 4, true⟩
  | .uNop1A => ⟨0x1A, .uNop, .implied, 2, false⟩
  | .sloAbsY w => ⟨0x1B, .slo, .memory (.absoluteY w), 7, false⟩
  | .uNopAbsX1C w => ⟨0x1C, .uNop, .memory (.absoluteX w), 4, true⟩
  | .oraAbsX w => ⟨0x1D, .ora, .memory (.absoluteX w), 4, true⟩
  | .aslAbsX w => ⟨0x1E, .asl, .memory (.absoluteX w), 7, false⟩
  | .sloAbsX w => ⟨0x1F, .slo, .memory (.absoluteX w), 7, false⟩
  | .jsr w => ⟨0x20, .jsr, .target w, 6, false⟩
  | .andIndX z => ⟨0x21, .and, .memory (.indexedIndirectX z), 6, false⟩
  | .rlaIndX z => ⟨0x23, .rla, .memory (.indexedIndirectX z), 8, false⟩
  | .bitZp z => ⟨0x24, .bit, .memory (.zeroPage z), 3, false⟩
  | .andZp z => ⟨0x25, .and, .memory (.zeroPage z), 3, false⟩
  | .rolZp z => ⟨0x26, .rol, .memory (.zeroPage z), 5, false⟩
  | .rlaZp z => ⟨0x27, .rla, .memory (.zeroPage z), 5, false⟩
  | .plp => ⟨0x28, .plp, .implied, 4, false⟩
  | .andImm v => ⟨0x29, .and, .immediate v, 2, false⟩
  | .rolAcc => ⟨0x2A, .rol, .accumulator, 2, false⟩
  | .bitAbs w => ⟨0x2C, .bit, .memory (.absolute w), 4, false⟩
  | .andAbs w => ⟨0x2D, .and, .memory (.absolute w), 4, false⟩
  | .rolAbs w => ⟨0x2E, .rol, .memory (.absolute w), 6, false⟩
  | .rlaAbs w => ⟨0x2F, .rla, .memory (.absolute w), 6, false⟩
  | .bmi off => ⟨0x30, .bmi, .relative off, 2, false⟩
  | .andIndY z => ⟨0x31, .and, .memory (.indirectIndexedY z), 5, true⟩
  | .rlaIndY z => ⟨0x33, .rla, .memory (.indirectIndexedY z), 8, false⟩
  | .uNopZpX34 z => ⟨0x34, .uNop, .memory (.zeroPageX z), 4, false⟩
  | .andZpX z => ⟨0x35, .and, .memory (.zeroPageX z), 4, false⟩
  | .rolZpX z => ⟨0x36, .rol, .memory (.zeroPageX z), 6, false⟩
  | .rlaZpX z => ⟨0x37, .rla, .memory (.zeroPageX z), 6, false⟩
  | .sec => ⟨0x38, .sec, .implied, 2, false⟩
  | .andAbsY w => ⟨0x39, .and, .memory (.absoluteY w), 4, true⟩
  | .uNop3A => ⟨0x3A, .uNop, .implied, 2, false⟩
  | .rlaAbsY w => ⟨0x3B, .rla, .memory (.absoluteY w), 7, false⟩
  | .uNopAbsX3C w => ⟨0x3C, .uNop, .memory (.absoluteX w), 4, true⟩
  | .andAbsX w => ⟨0x3D, .and, .memory (.absoluteX w), 4, true⟩
  | .rolAbsX w => ⟨0x3E, .rol, .memory (.absoluteX w), 7, false⟩
  | .rlaAbsX w => ⟨0x3F, .rla, .memory (.absoluteX w), 7, false⟩
  | .rti => ⟨0x40, .rti, .implied, 6, false⟩
  | .eorIndX z => ⟨0x41, .eor, .memory (.indexedIndirectX z), 6, false⟩
  | .sreIndX z => ⟨0x43, .sre, .memory (.indexedIndirectX z), 8, false⟩
  | .uNopZp44 z => ⟨0x44, .uNop, .memory (.zeroPage z), 3, false⟩
  | .eorZp z => ⟨0x45, .eor, .memory (.zeroPage z), 3, false⟩
  | .lsrZp z => ⟨0x46, .lsr, .memory (.zeroPage z), 5, false⟩
  | .sreZp z => ⟨0x47, .sre, .memory (.zeroPage z), 5, false⟩
  | .pha => ⟨0x48, .pha, .implied, 3, false⟩
  | .eorImm v => ⟨0x49, .eor, .immediate v, 2, false⟩
  | .lsrAcc => ⟨0x4A, .lsr, .accumulator, 2, false⟩
  | .jmpAbs w => ⟨0x4C, .jmp, .target w, 3, false⟩
  | .eorAbs w => ⟨0x4D, .eor, .memory (.absolute w), 4, false⟩
  | .lsrAbs w => ⟨0x4E, .lsr, .memory (.absolute w), 6, false⟩
  | .sreAbs w => ⟨0x4F, .sre, .memory (.absolute w), 6, false⟩
  | .bvc off => ⟨0x50, .bvc, .relative off, 2, false⟩
  | .eorIndY z => ⟨0x51, .eor, .memory (.indirectIndexedY z), 5, true⟩
  | .sreIndY z => ⟨0x53, .sre, .memory (.indirectIndexedY z), 8, false⟩
  | .uNopZpX54 z => ⟨0x54, .uNop, .memory (.zeroPageX z), 4, false⟩
  | .eorZpX z => ⟨0x55, .eor, .memory (.zeroPageX z), 4, false⟩
  | .lsrZpX z => ⟨0x56, .lsr, .memory (.zeroPageX z), 6, false⟩
  | .sreZpX z => ⟨0x57, .sre, .memory (.zeroPageX z), 6, false⟩
  | .cli => ⟨0x58, .cli, .implied, 2, false⟩
  | .eorAbsY w => ⟨0x59, .eor, .memory (.absoluteY w), 4, true⟩
  | .uNop5A => ⟨0x5A, .uNop, .implied, 2, false⟩
  | .sreAbsY w => ⟨0x5B, .sre, .memory (.absoluteY w), 7, false⟩
  | .uNopAbsX5C w => ⟨0x5C, .uNop, .memory (.absoluteX w), 4, true⟩
  | .eorAbsX w => ⟨0x5D, .eor, .memory (.absoluteX w), 4, true⟩
  | .lsrAbsX w => ⟨0x5E, .lsr, .memory (.absoluteX w), 7, false⟩
  | .sreAbsX w => ⟨0x5F, .sre, .memory (.absoluteX w), 7, false⟩
  | .rts => ⟨0x60, .rts, .implied, 6, false⟩
  | .adcIndX z => ⟨0x61, .adc, .memory (.indexedIndirectX z), 6, false⟩
  | .rraIndX z => ⟨0x63, .rra, .memory (.indexedIndirectX z), 8, false⟩
  | .uNopZp64 z => ⟨0x64, .uNop, .memory (.zeroPage z), 3, false⟩
  | .adcZp z => ⟨0x65, .adc, .memory (.zeroPage z), 3, false⟩
  | .rorZp z => ⟨0x66, .ror, .memory (.zeroPage z), 5, false⟩
  | .rraZp z => ⟨0x67, .rra, .memory (.zeroPage z), 5, false⟩
  | .pla => ⟨0x68, .pla, .implied, 4, false⟩
  | .adcImm v => ⟨0x69, .adc, .immediate v, 2, false⟩
  | .rorAcc => ⟨0x6A, .ror, .accumulator, 2, false⟩
  | .jmpInd w => ⟨0x6C, .jmp, .indirect w, 5, false⟩
  | .adcAbs w => ⟨0x6D, .adc, .memory (.absolute w), 4, false⟩
  | .rorAbs w => ⟨0x6E, .ror, .memory (.absolute w), 6, false⟩
  | .rraAbs w => ⟨0x6F, .rra, .memory (.absolute w), 6, false⟩
  | .bvs off => ⟨0x70, .bvs, .relative off, 2, false⟩
  | .adcIndY z => ⟨0x71, .adc, .memory (.indirectIndexedY z), 5, true⟩
  | .rraIndY z => ⟨0x73, .rra, .memory (.indirectIndexedY z), 8, false⟩
  | .uNopZpX74 z => ⟨0x74, .uNop, .memory (.zeroPageX z), 4, false⟩
  | .adcZpX z => ⟨0x75, .adc, .memory (.zeroPageX z), 4, false⟩
  | .rorZpX z => ⟨0x76, .ror, .memory (.zeroPageX z), 6, false⟩
  | .rraZpX z => ⟨0x77, .rra, .memory (.zeroPageX z), 6, false⟩
  | .sei => ⟨0x78, .sei, .implied, 2, false⟩
  | .adcAbsY w => ⟨0x79, .adc, .memory (.absoluteY w), 4, true⟩
  | .uNop7A => ⟨0x7A, .uNop, .implied, 2, false⟩
  | .rraAbsY w => ⟨0x7B, .rra, .memory (.absoluteY w), 7, false⟩
  | .uNopAbsX7C w => ⟨0x7C, .uNop, .memory (.absoluteX w), 4, true⟩
  | .adcAbsX w => ⟨0x7D, .adc, .memory (.absoluteX w), 4, true⟩
  | .rorAbsX w => ⟨0x7E, .ror, .memory (.absoluteX w), 7, false⟩
  | .rraAbsX w => ⟨0x7F, .rra, .memory (.absoluteX w), 7, false⟩
  | .uNopImm80 v => ⟨0x80, .uNop, .immediate v, 2, false⟩
  | .staIndX z => ⟨0x81, .sta, .memory (.indexedIndirectX z), 6, false⟩
  | .saxIndX z => ⟨0x83, .sax, .memory (.indexedIndirectX z), 6, false⟩
  | .styZp z => ⟨0x84, .sty, .memory (.zeroPage z), 3, false⟩
  | .staZp z => ⟨0x85, .sta, .memory (.zeroPage z), 3, false⟩
  | .stxZp z => ⟨0x86, .stx, .memory (.zeroPage z), 3, false⟩
  | .saxZp z => ⟨0x87, .sax, .memory (.zeroPage z), 3, false⟩
  | .dey => ⟨0x88, .dey, .implied, 2, false⟩
  | .txa => ⟨0x8A, .txa, .implied, 2, false⟩
  | .styAbs w => ⟨0x8C, .sty, .memory (.absolute w), 4, false⟩
  | .staAbs w => ⟨0x8D, .sta, .memory (.absolute w), 4, false⟩
  | .stxAbs w => ⟨0x8E, .stx, .memory (.absolute w), 4, false⟩
  | .saxAbs w => ⟨0x8F, .sax, .memory (.absolute w), 4, false⟩
  | .bcc off => ⟨0x90, .bcc, .relative off, 2, false⟩
  | .staIndY z => ⟨0x91, .sta, .memory (.indirectIndexedY z), 6, false⟩
  | .styZpX z => ⟨0x94, .sty, .memory (.zeroPageX z), 4, false⟩
  | .staZpX z => ⟨0x95, .sta, .memory (.zeroPageX z), 4, false⟩
  | .stxZpY z => ⟨0x96, .stx, .memory (.zeroPageY z), 4, false⟩
  | .saxZpY z => ⟨0x97, .sax, .memory (.zeroPageY z), 4, false⟩
  | .tya => ⟨0x98, .tya, .implied, 2, false⟩
  | .staAbsY w => ⟨0x99, .sta, .memory (.absoluteY w), 5, false⟩
  | .txs => ⟨0x9A, .txs, .implied, 2, false⟩
  | .staAbsX w => ⟨0x9D, .sta, .memory (.absoluteX w), 5, false⟩
  | .ldyImm v => ⟨0xA0, .ldy, .immediate v, 2, false⟩
  | .ldaIndX z => ⟨0xA1, .lda, .memory (.indexedIndirectX z), 6, false⟩
  | .ldxImm v => ⟨0xA2, .ldx, .immediate v, 2, false⟩
  | .laxIndX z => ⟨0xA3, .lax, .memory (.indexedIndirectX z), 6, false⟩
  | .ldyZp z => ⟨0xA4, .ldy, .memory (.zeroPage z), 3, false⟩
  | .ldaZp z => ⟨0xA5, .lda, .memory (.zeroPage z), 3, false⟩
  | .ldxZp z => ⟨0xA6, .ldx, .memory (.zeroPage z), 3, false⟩
  | .laxZp z => ⟨0xA7, .lax, .memory (.zeroPage z), 3, false⟩
  | .tay => ⟨0xA8, .tay, .implied, 2, false⟩
  | .ldaImm v => ⟨0xA9, .lda, .immediate v, 2, false⟩
  | .tax => ⟨0xAA, .tax, .implied, 2, false⟩
  | .ldyAbs w => ⟨0xAC, .ldy, .memory (.absolute w), 4, false⟩
  | .ldaAbs w => ⟨0xAD, .lda, .memory (.absolute w), 4, false⟩
  | .ldxAbs w => ⟨0xAE, .ldx, .memory (.absolute w), 4, false⟩
  | .laxAbs w => ⟨0xAF, .lax, .memory (.absolute w), 4, false⟩
  | .bcs off => ⟨0xB0, .bcs, .relative off, 2, false⟩
  | .ldaIndY z => ⟨0xB1, .lda, .memory (.indirectIndexedY z), 5, true⟩
  | .laxIndY z => ⟨0xB3, .lax, .memory (.indirectIndexedY z), 5, true⟩
  | .ldyZpX z => ⟨0xB4, .ldy, .memory (.zeroPageX z), 4, false⟩
  | .ldaZpX z => ⟨0xB5, .lda, .memory (.zeroPageX z), 4, false⟩
  | .ldxZpY z => ⟨0xB6, .ldx, .memory (.zeroPageY z), 4, false⟩
  | .laxZpY z => ⟨0xB7, .lax, .memory (.zeroPageY z), 4, false⟩
  | .clv => ⟨0xB8, .clv, .implied, 2, false⟩
  | .ldaAbsY w => ⟨0xB9, .lda, .memory (.absoluteY w), 4, true⟩
  | .tsx => ⟨0xBA, .tsx, .implied, 2, false⟩
  | .ldyAbsX w => ⟨0xBC, .ldy, .memory (.absoluteX w), 4, true⟩
  | .ldaAbsX w => ⟨0xBD, .lda, .memory (.absoluteX w), 4, true⟩
  | .ldxAbsY w => ⟨0xBE, .ldx, .memory (.absoluteY w), 4, true⟩
  | .laxAbsY w => ⟨0xBF, .lax, .memory (.absoluteY w), 4, true⟩
  | .cpyImm v => ⟨0xC0, .cpy, .immediate v, 2, false⟩
  | .cmpIndX z => ⟨0xC1, .cmp, .memory (.indexedIndirectX z), 6, false⟩
  | .dcpIndX z => ⟨0xC3, .dcp, .memory (.indexedIndirectX z), 8, false⟩
  | .cpyZp z => ⟨0xC4, .cpy, .memory (.zeroPage z), 3, false⟩
  | .cmpZp z => ⟨0xC5, .cmp, .memory (.zeroPage z), 3, false⟩
  | .decZp z => ⟨0xC6, .dec, .memory (.zeroPage z), 5, false⟩
  | .dcpZp z => ⟨0xC7, .dcp, .memory (.zeroPage z), 5, false⟩
  | .iny => ⟨0xC8, .iny, .implied, 2, false⟩
  | .cmpImm v => ⟨0xC9, .cmp, .immediate v, 2, false⟩
  | .dex => ⟨0xCA, .dex, .implied, 2, false⟩
  | .cpyAbs w => ⟨0xCC, .cpy, .memory (.absolute w), 4, false⟩
  | .cmpAbs w => ⟨0xCD, .cmp, .memory (.absolute w), 4, false⟩
  | .decAbs w => ⟨0xCE, .dec, .memory (.absolute w), 6, false⟩
  | .dcpAbs w => ⟨0xCF, .dcp, .memory (.absolute w), 6, false⟩
  | .bne off => ⟨0xD0, .bne, .relative off, 2, false⟩
  | .cmpIndY z => ⟨0xD1, .cmp, .memory (.indirectIndexedY z), 5, true⟩
  | .dcpIndY z => ⟨0xD3, .dcp, .memory (.indirectIndexedY z), 8, false⟩
  | .uNopZpXD4 z => ⟨0xD4, .uNop, .memory (.zeroPageX z), 4, false⟩
  | .cmpZpX z => ⟨0xD5, .cmp, .memory (.zeroPageX z), 4, false⟩
  | .decZpX z => ⟨0xD6, .dec, .memory (.zeroPageX z), 6, false⟩
  | .dcpZpX z => ⟨0xD7, .dcp, .memory (.zeroPageX z), 6, false⟩
  | .cld => ⟨0xD8, .cld, .implied, 2, false⟩
  | .cmpAbsY w => ⟨0xD9, .cmp, .memory (.absoluteY w), 4, true⟩
  | .uNopDA => ⟨0xDA, .uNop, .implied, 2, false⟩
  | .dcpAbsY w => ⟨0xDB, .dcp, .memory (.absoluteY w), 7, false⟩
  | .uNopAbsXDC w => ⟨0xDC, .uNop, .memory (.absoluteX w), 4, true⟩
  | .cmpAbsX w => ⟨0xDD, .cmp, .memory (.absoluteX w), 4, true⟩
  | .decAbsX w => ⟨0xDE, .dec, .memory (.absoluteX w), 7, false⟩
  | .dcpAbsX w => ⟨0xDF, .dcp, .memory (.absoluteX w), 7, false⟩
  | .cpxImm v => ⟨0xE0, .cpx, .immediate v, 2, false⟩
  | .sbcIndX z => ⟨0xE1, .sbc, .memory (.indexedIndirectX z), 6, false⟩
  | .isbIndX z => ⟨0xE3, .isb, .memory (.indexedIndirectX z), 8, false⟩
  | .cpxZp z => ⟨0xE4, .cpx, .memory (.zeroPage z), 3, false⟩
  | .sbcZp z => ⟨0xE5, .sbc, .memory (.zeroPage z), 3, false⟩
  | .incZp z => ⟨0xE6, .inc, .memory (.zeroPage z), 5, false⟩
  | .isbZp z => ⟨0xE7, .isb, .memory (.zeroPage z), 5, false⟩
  | .inx => ⟨0xE8, .inx, .implied, 2, false⟩
  | .sbcImm v => ⟨0xE9, .sbc, .immediate v, 2, false⟩
  | .nop => ⟨0xEA, .nop, .implied, 2, false⟩
  | .uSbcImm v => ⟨0xEB, .uSbc, .immediate v, 2, false⟩
  | .cpxAbs w => ⟨0xEC, .cpx, .memory (.absolute w), 4, false⟩
  | .sbcAbs w => ⟨0xED, .sbc, .memory (.absolute w), 4, false⟩
  | .incAbs w => ⟨0xEE, .inc, .memory (.absolute w), 6, false⟩
  | .isbAbs w => ⟨0xEF, .isb, .memory (.absolute w), 6, false⟩
  | .beq off => ⟨0xF0, .beq, .relative off, 2, false⟩
  | .sbcIndY z => ⟨0xF1, .sbc, .memory (.indirectIndexedY z), 5, true⟩
  | .isbIndY z => ⟨0xF3, .isb, .memory (.indirectIndexedY z), 8, false⟩
  | .uNopZpXF4 z => ⟨0xF4, .uNop, .memory (.zeroPageX z), 4, false⟩
  | .sbcZpX z => ⟨0xF5, .sbc, .memory (.zeroPageX z), 4, false⟩
  | .incZpX z => ⟨0xF6, .inc, .memory (.zeroPageX z), 6, false⟩
  | .isbZpX z => ⟨0xF7, .isb, .memory (.zeroPageX z), 6, false⟩
  | .sed => ⟨0xF8, .sed, .implied, 2, false⟩
  | .sbcAbsY w => ⟨0xF9, .sbc, .memory (.absoluteY w), 4, true⟩
  | .uNopFA => ⟨0xFA, .uNop, .implied, 2, false⟩
  | .isbAbsY w => ⟨0xFB, .isb, .memory (.absoluteY w), 7, false⟩
  | .uNopAbsXFC w => ⟨0xFC, .uNop, .memory (.absoluteX w), 4, true⟩
  | .sbcAbsX w => ⟨0xFD, .sbc, .memory (.absoluteX w), 4, true⟩
  | .incAbsX w => ⟨0xFE, .inc, .memory (.absoluteX w), 7, false⟩
  | .isbAbsX w => ⟨0xFF, .isb, .memory (.absoluteX w), 7, false⟩

/-- The instruction's opcode byte. -/
def Instr.opcode (i : Instr) : Byte := i.row.opcode

/-- The instruction's mnemonic. -/
def Instr.mnemonic (i : Instr) : Mnemonic := i.row.mnemonic

/-- The instruction's operand. -/
def Instr.operand (i : Instr) : Operand := i.row.operand

/-- The instruction's addressing mode. -/
def Instr.mode (i : Instr) : Mode := i.operand.mode

/-- The instruction's length in bytes (R80). -/
def Instr.length (i : Instr) : Nat := i.mode.length

/-- The bytes of a memory mode's operand field: a word is stored low byte first (R82). -/
def MemMode.bytes : MemMode → List Byte
  | .zeroPage z | .zeroPageX z | .zeroPageY z | .indexedIndirectX z | .indirectIndexedY z => [z]
  | .absolute w | .absoluteX w | .absoluteY w => [lo w, hi w]

/-- The operand bytes of an instruction (R80, R82). -/
def Operand.bytes : Operand → List Byte
  | .implied | .accumulator => []
  | .immediate b | .relative b => [b]
  | .memory m => m.bytes
  | .target w | .indirect w => [lo w, hi w]

/-- The encoder: opcode byte, then operand bytes (R80). -/
def encode (i : Instr) : List Byte := i.opcode :: i.operand.bytes

end Sys2Proof
end

