-- ==== Sys2Proof/Machine/State.lean ====
section
/-! DEFINITION. Everything the block holds (spec/10_state.md), the reasons a step can stop (spec/60_exceptions.md
R251) and the machine right after boot with the default parameters (R47). -/

namespace Sys2Proof.Machine

/-- A memory array: (index, byte) cells in one canonical form (`Memory.wf`, Machine/Ops.lean). WRAM is keyed by
`a % 2048` (R55), PRG by `a % bank_size` (R59), so mirrors share their cell. -/
abbrev Memory := List Host.Cell

/-- What an unlisted index reads as. DESIGN CHOICE, unsafe: the spec leaves WRAM at boot open (log 1) and loads
PRG from a file (log 2). -/
def Memory.unlisted : Byte := 0x00

/-- The eight status booleans (R20, R27). -/
structure Flags where
  n  : Bool
  v  : Bool
  bh : Bool
  bl : Bool
  d  : Bool
  i  : Bool
  z  : Bool
  c  : Bool
  deriving DecidableEq, Repr

/-- A set of addresses: strictly rising, so that equal sets are equal data (R42, log 14). -/
abbrev AddrSet := List Addr

/-- The fault reasons of R251 with their `info` and the `pc` of R250. Every one is raised where the spec raises it,
so none is a refusal in disguise; the machine stops where the hardware stops. -/
inductive Fault where
  /-- Raised by the fetch: the opcode has no table entry (R84). Safe: the spec's own fault. -/
  | unimplementedOpcode (opcode : Byte) (pc : Addr)
  /-- Raised by any bus access in 0x4018-0x7FFF (R61). Safe: the spec's own fault. -/
  | unmappedAccess (address : Addr) (pc : Addr)
  /-- Raised by a write to 0x8000-0xFFFF under `prgWritePolicy = fault` (R60). Safe: the spec's own fault. -/
  | romWrite (address : Addr) (pc : Addr)
  /-- Raised by the cartridge load only: header byte 6 bit 2 is set (R297). Safe: no machine exists. -/
  | trainerPresent
  /-- Raised by the cartridge load only: PRG size or file length not admitted (R297, D28). Safe: no machine exists. -/
  | badPrgSize (units : Byte)
  deriving DecidableEq, Repr

/-- Why a step is refused. Every instruction has its meaning, so no step of this model is refused. -/
inductive Refusal where
  /-- Raised by an arm of `exec` whose instruction has no meaning yet (there is none). Safe. -/
  | notModelled (mnemonic : String)
  deriving DecidableEq, Repr

/-- The operand part of a trace line (R277). A byte `vv` is `none` where the peek of R272 reports it as
unspecified (log 9). -/
inductive TraceOperand where
  | implied
  | accumulator
  | immediate (v : Byte)
  | zeroPage (z : Byte) (vv : Option Byte)
  | zeroPageX (z ee : Byte) (vv : Option Byte)
  | zeroPageY (z ee : Byte) (vv : Option Byte)
  | absolute (w : Addr) (vv : Option Byte)
  | absoluteX (w eeee : Addr) (vv : Option Byte)
  | absoluteY (w eeee : Addr) (vv : Option Byte)
  | indexedIndirectX (z pp : Byte) (eeee : Addr) (vv : Option Byte)
  | indirectIndexedY (z : Byte) (bbbb eeee : Addr) (vv : Option Byte)
  | target (w : Addr)
  | indirect (w tttt : Addr)
  | relative (tttt : Addr)
  deriving DecidableEq, Repr

/-- One trace line: the state before the instruction, by field (R276). -/
structure TraceLine where
  pc       : Addr
  bytes    : List Byte
  mnemonic : Mnemonic
  operand  : TraceOperand
  a        : Byte
  x        : Byte
  y        : Byte
  p        : Byte
  sp       : Byte
  cyc      : Nat
  deriving DecidableEq, Repr

/-- Why the core is halted (R270). -/
inductive HaltReason where
  | breakpoint (pc : Addr)
  | watchpoint (line : TraceLine)
  | goldenMismatch (expected actual : TraceLine)
  deriving DecidableEq, Repr

/-- The run status (R44). A fault carries its own pc. -/
inductive RunStatus where
  | running
  | halted (reason : HaltReason)
  | faulted (fault : Fault)
  deriving DecidableEq, Repr

/-- The machine's state. INVENTORY.md lists each field with its rule. -/
structure State where
  /-- Program counter (R26): the address of the current instruction's opcode byte. -/
  pc          : Addr
  /-- Accumulator (R21). -/
  a           : Byte
  /-- Index register X (R22). -/
  x           : Byte
  /-- Index register Y (R23). -/
  y           : Byte
  /-- Stack pointer (R24). -/
  sp          : Byte
  /-- Status flags (R27). -/
  p           : Flags
  /-- Cycle counter (R41), unbounded as D29 allows (log 6). -/
  cyc         : Nat
  /-- Work RAM (R40, R55). -/
  wram        : Memory
  /-- Cartridge PRG-ROM (R40, R59). -/
  prg         : Memory
  /-- The block's parameters (R6); no step changes them (log 4). -/
  params      : Params
  /-- PPU accesses made so far, oldest first (R57). -/
  busHistory  : List BusEvent
  /-- The model's own counter: the `choice` of the next `ppuRead` draw (log 5). -/
  ppuChoice   : Nat
  /-- One-shot breakpoints (R42). -/
  breakpoints : AddrSet
  /-- Watchpoints (R42). -/
  watchpoints : AddrSet
  /-- Whether this step's accesses touched a watchpoint (R43). -/
  watchHit    : Bool
  /-- Run status (R44). -/
  status      : RunStatus
  /-- Trace lines delivered so far, in execution order (R276, log 10). -/
  trace       : List TraceLine
  deriving DecidableEq, Repr

/-- The machine right after boot (R47, R290) with the default parameters of R6, a PRG and a WRAM that list
nothing, and `bootPc = resetVector`: the vector word of that PRG is 0x0000 (log 1, 2, 3). -/
def State.reset : State where
  pc          := 0x0000
  a           := 0x00
  x           := 0x00
  y           := 0x00
  sp          := 0xFD
  p           := ⟨false, false, true, false, false, true, false, false⟩
  cyc         := 7
  wram        := []
  prg         := []
  params      := Params.default
  busHistory  := []
  ppuChoice   := 0
  breakpoints := []
  watchpoints := []
  watchHit    := false
  status      := .running
  trace       := []

end Sys2Proof.Machine
end

