-- ==== Sys2Proof/Machine/Flags.lean ====
section
/-! DEFINITION. The status byte (spec/10_state.md R27 to R29), `SetNZ` (spec/00_scope.md R12) and every ALU
computation with its flags: AddWithCarry (spec/42_arith_logic.md R150), Compare (R156), BIT (R155) and the four
shifts of spec/43_shift_rotate.md. -/

namespace Sys2Proof.Machine

/-- `encode()` of R27: `(N, V, Bh, Bl, D, I, Z, C)` from bit 7 down to bit 0. -/
def Flags.encode (f : Flags) : Byte :=
  BitVec.ofBool f.n ++ BitVec.ofBool f.v ++ BitVec.ofBool f.bh ++ BitVec.ofBool f.bl ++
    BitVec.ofBool f.d ++ BitVec.ofBool f.i ++ BitVec.ofBool f.z ++ BitVec.ofBool f.c

/-- `decode(value)` of R28. -/
def Flags.decode (v : Byte) : Flags where
  n  := v.getLsbD 7
  v  := v.getLsbD 6
  bh := v.getLsbD 5
  bl := v.getLsbD 4
  d  := v.getLsbD 3
  i  := v.getLsbD 2
  z  := v.getLsbD 1
  c  := v.getLsbD 0

/-- `RestoreP(v)` of R29: `Bh` and `Bl` keep their values. -/
def Flags.restore (f : Flags) (v : Byte) : Flags :=
  { f with n := v.getLsbD 7, v := v.getLsbD 6, d := v.getLsbD 3, i := v.getLsbD 2, z := v.getLsbD 1,
           c := v.getLsbD 0 }

/-- The status byte PHP and BRK push: bits 5 and 4 set (R191, R204, D7). -/
def Flags.pushed (f : Flags) : Byte := f.encode ||| 0x30

/-- `SetNZ(v)` of R12. -/
def Flags.setNZ (f : Flags) (v : Byte) : Flags := { f with n := v.getLsbD 7, z := v == 0 }

/-- The 9-bit sum of `AddWithCarry` (R150). -/
def addSum (a v : Byte) (c : Bool) : Nat := a.toNat + v.toNat + c.toNat

/-- The 8-bit result of `AddWithCarry` (R150). -/
def addResult (a v : Byte) (c : Bool) : Byte := BitVec.ofNat 8 (addSum a v c)

/-- The flags of `AddWithCarry`: C, V, then N and Z of the result (R150). D has no part in it (R34, R165). -/
def Flags.add (f : Flags) (a v : Byte) : Flags :=
  let r := addResult a v f.c
  let f := { f with c := decide (0xFF < addSum a v f.c), v := ~~~(a ^^^ v) &&& (a ^^^ r) &&& 0x80 != 0 }
  f.setNZ r

/-- The flags of `Compare(r, v)` (R156). -/
def Flags.compare (f : Flags) (r v : Byte) : Flags :=
  { f with c := decide (v.toNat ≤ r.toNat), z := r == v, n := (r - v).getLsbD 7 }

/-- The flags of BIT: N and V from memory, Z from `A & M` (R155). -/
def Flags.bitTest (f : Flags) (a m : Byte) : Flags :=
  { f with n := m.getLsbD 7, v := m.getLsbD 6, z := a &&& m == 0 }

/-- `ShiftLeft(v, c)` (R180). -/
def shiftLeft (v : Byte) (_c : Bool) : Byte × Bool := (v <<< 1, v.getLsbD 7)

/-- `ShiftRight(v, c)` (R181). -/
def shiftRight (v : Byte) (_c : Bool) : Byte × Bool := (v >>> 1, v.getLsbD 0)

/-- `RotateLeft(v, c)` (R182). -/
def rotateLeft (v : Byte) (c : Bool) : Byte × Bool := (v <<< 1 ||| (BitVec.ofBool c).setWidth 8, v.getLsbD 7)

/-- `RotateRight(v, c)` (R183). -/
def rotateRight (v : Byte) (c : Bool) : Byte × Bool :=
  (v >>> 1 ||| (BitVec.ofBool c).setWidth 8 <<< 7, v.getLsbD 0)

/-- Increment modulo 256; the carry passes through (R159). -/
def incByte (v : Byte) (c : Bool) : Byte × Bool := (v + 1, c)

/-- Decrement modulo 256; the carry passes through (R160). -/
def decByte (v : Byte) (c : Bool) : Byte × Bool := (v - 1, c)

end Sys2Proof.Machine
end

