-- ==== Sys2Proof/Machine/Ops.lean ====
section
/-! DEFINITION. The named operations every meaning is built from: memory arrays, the CPU bus decoder
(spec/20_memory.md R50 to R61), watchpoint detection (R67), the stack (R62 to R64), the end of an instruction
(spec/30_encoding.md R88), and the one trap entry and its return (spec/60_exceptions.md R262, R263). -/

namespace Sys2Proof.Machine

/-- What an instruction or a step answers. -/
abbrev Result := Host.Outcome State Fault Refusal

/-! ### Memory arrays -/

/-- The byte an array holds at an index. -/
def Memory.read (m : Memory) (k : Nat) : Byte :=
  match m with
  | [] => Memory.unlisted
  | (j, v) :: m => if j = k then v else Memory.read m k

/-- Insert a cell before the first cell of higher index. -/
def Memory.insert (k : Nat) (v : Byte) (m : Memory) : Memory :=
  match m with
  | [] => [(k, v)]
  | (j, w) :: m => if k < j then (k, v) :: (j, w) :: m else (j, w) :: Memory.insert k v m

/-- Store a byte at an index, keeping the canonical form: the old cell goes, and a new one comes unless the byte is
what an unlisted index reads as. -/
def Memory.write (m : Memory) (k : Nat) (v : Byte) : Memory :=
  if v = Memory.unlisted then m.filter (fun c => c.1 != k)
  else Memory.insert k v (m.filter (fun c => c.1 != k))

/-- The canonical form of an array of `size` bytes: indices rise strictly and stay below `size`, and no cell holds
what an unlisted index reads as. -/
def Memory.wf (size : Nat) (m : Memory) : Bool :=
  decide (m.Pairwise (fun c d => c.1 < d.1)) && m.all (fun c => decide (c.1 < size) && c.2 != Memory.unlisted)

/-! ### The bus decoder -/

/-- The regions of R50. -/
inductive Region where
  | wram
  | ppu
  | apu
  | expansion
  | sram
  | prg
  deriving DecidableEq, Repr

/-- The region of a CPU address (R50). -/
def region (a : Addr) : Region :=
  if a.toNat < 0x2000 then .wram
  else if a.toNat < 0x4000 then .ppu
  else if a.toNat < 0x4018 then .apu
  else if a.toNat < 0x6000 then .expansion
  else if a.toNat < 0x8000 then .sram
  else .prg

/-- The WRAM index of an address (R55). -/
def wramIndex (a : Addr) : Nat := a.toNat % 2048

/-- The PPU register of an address: `a % 8` (R56). -/
def ppuReg (a : Addr) : BitVec 3 := a.setWidth 3

/-- The PRG index of an address (R59). -/
def prgIndex (s : State) (a : Addr) : Nat := a.toNat % s.params.bankSize.bytes

/-- Watchpoint detection at the bus boundary, on the unmirrored address (R67). -/
def touch (a : Addr) (s : State) : State := { s with watchHit := s.watchHit || s.watchpoints.contains a }

/-- Record a PPU access (R57). -/
def logPpu (e : BusEvent) (s : State) : State := { s with busHistory := s.busHistory ++ [e] }

/-- `MemRead(a, 1)`: the byte and the state after the access (R50, R55 to R61). A PPU read is a draw of the oracle
(R57), each with a choice of its own (log 5). -/
def busRead (a : Addr) (s : State) : Except Fault (Byte × State) :=
  match region a with
  | .wram => .ok (s.wram.read (wramIndex a), touch a s)
  | .ppu =>
    let v := Config.ppuRead (ppuReg a) s.busHistory s.ppuChoice
    .ok (v, { logPpu ⟨.read, ppuReg a, v⟩ (touch a s) with ppuChoice := s.ppuChoice + 1 })
  | .apu => .ok (0x00, touch a s)
  | .expansion | .sram => .error (.unmappedAccess a s.pc)
  | .prg => .ok (s.prg.read (prgIndex s a), touch a s)

/-- `MemWrite(a, 1, v)` (R50, R55 to R61). -/
def busWrite (a : Addr) (v : Byte) (s : State) : Except Fault State :=
  match region a with
  | .wram => .ok { touch a s with wram := s.wram.write (wramIndex a) v }
  | .ppu => .ok (logPpu ⟨.write, ppuReg a, v⟩ (touch a s))
  | .apu => .ok (touch a s)
  | .expansion | .sram => .error (.unmappedAccess a s.pc)
  | .prg =>
    match s.params.prgWritePolicy with
    | .ignore => .ok (touch a s)
    | .fault => .error (.romWrite a s.pc)

/-- The side-effect-free peek of R272: `none` where it reports a byte as unspecified (log 9). -/
def peek (a : Addr) (s : State) : Option Byte :=
  match region a with
  | .wram => some (s.wram.read (wramIndex a))
  | .ppu | .expansion | .sram => none
  | .apu => some 0x00
  | .prg => some (s.prg.read (prgIndex s a))

/-- A word read as two single-byte accesses, low byte first, the high byte at `b` (R10, R51, R52). -/
def readPair (a b : Addr) (s : State) : Except Fault (Addr × State) :=
  match busRead a s with
  | .error f => .error f
  | .ok (l, s) =>
    match busRead b s with
    | .error f => .error f
    | .ok (h, s) => .ok (word l h, s)

/-- `Read16(a)` (R10). -/
def read16 (a : Addr) (s : State) : Except Fault (Addr × State) := readPair a (a + 1) s

/-- The word `ZpRead16(z)` reads; zero-page reads are WRAM reads and cannot fault (R10, R55, log 12). -/
def zpWord (z : Byte) (s : State) : Addr := word (s.wram.read z.toNat) (s.wram.read (z + 1).toNat)

/-- The state after the two accesses of `ZpRead16(z)` (R67). -/
def zpTouch (z : Byte) (s : State) : State := touch (zext16 (z + 1)) (touch (zext16 z) s)

/-! ### The stack -/

/-- The address SP names: `0x0100 | SP` (R24). -/
def stackAddr (sp : Byte) : Addr := 0x0100#16 ||| zext16 sp

/-- `Push(v)` (R62): a WRAM write, then SP falls by one, wrapping (R64, log 12). -/
def push (v : Byte) (s : State) : State :=
  { touch (stackAddr s.sp) s with wram := s.wram.write (wramIndex (stackAddr s.sp)) v, sp := s.sp - 1 }

/-- `Pull()` (R63): SP rises by one, wrapping, then a WRAM read (R64, log 12). -/
def pull (s : State) : Byte × State :=
  let sp := s.sp + 1
  (s.wram.read (wramIndex (stackAddr sp)), { touch (stackAddr sp) s with sp := sp })

/-- Push a return address, high byte first (R51, R202). -/
def pushWord (w : Addr) (s : State) : State := push (lo w) (push (hi w) s)

/-- Pull a return address, low byte first (R203). -/
def pullWord (s : State) : Addr × State :=
  let (l, s) := pull s
  let (h, s) := pull s
  (word l h, s)

/-! ### Flow -/

/-- The page-cross test of R116. -/
def crossed (base final : Addr) : Bool := base &&& 0xFF00 != final &&& 0xFF00

/-- One cycle if the condition holds. -/
def extraCycle (b : Bool) : Nat := if b then 1 else 0

/-- Add to the cycle counter (R13). -/
def spend (n : Nat) (s : State) : State := { s with cyc := s.cyc + n }

/-- Set PC explicitly (R88). -/
def jumpTo (t : Addr) (s : State) : State := { s with pc := t }

/-- The common end of R88: PC past the instruction, then the cost. -/
def finish (length cost : Nat) (s : State) : State := spend cost (jumpTo (s.pc + BitVec.ofNat 16 length) s)

/-- The outcome of operations that answer a state or a fault. -/
def toResult (r : Except Fault State) : Result :=
  match r with
  | .error f => .fault f
  | .ok s => .next s

/-! ### Taking the trap and returning from it -/

/-- The BRK vector (R68). -/
def brkVector : Addr := 0xFFFE

/-- Trap entry (R204, R262): push PC+2 high byte first, push the status byte with bits 5 and 4 set, set I, and go to
the word at 0xFFFE. -/
def takeBreak (s : State) : Except Fault State :=
  let s := pushWord (s.pc + 2) s
  let s := push s.p.pushed s
  let s := { s with p := { s.p with i := true } }
  match read16 brkVector s with
  | .error f => .error f
  | .ok (t, s) => .ok (jumpTo t s)

/-- Trap return (R205, R263): restore the status byte but Bh and Bl, then pull PC, without adding 1. -/
def returnFromBreak (s : State) : State :=
  let (v, s) := pull s
  let s := { s with p := s.p.restore v }
  let (t, s) := pullWord s
  jumpTo t s

end Sys2Proof.Machine
end

