-- ==== Sys2Proof/Machine/Fetch.lean ====
section
/-! DEFINITION. Fetching one instruction through the bus (spec/30_encoding.md R87, spec/20_memory.md R72), and placing
bytes where a fetch reads them. -/

namespace Sys2Proof.Machine

/-- What a fetch answers: the instruction, its raw bytes, and the state after the fetch accesses. -/
structure Fetched where
  instr : Instr
  bytes : List Byte
  after : State
  deriving DecidableEq, Repr

/-- The operand bytes of a form, read in rising order after the opcode (R87, R120). -/
def fetchForm (op : Byte) (form : Form) (pc : Addr) (s : State) : Except Fault Fetched :=
  match form with
  | .none i => .ok ⟨i, [op], s⟩
  | .byte mk =>
    match busRead (pc + 1) s with
    | .error f => .error f
    | .ok (b1, s) => .ok ⟨mk b1, [op, b1], s⟩
  | .word mk =>
    match busRead (pc + 1) s with
    | .error f => .error f
    | .ok (b1, s) =>
      match busRead (pc + 2) s with
      | .error f => .error f
      | .ok (b2, s) => .ok ⟨mk (word b1 b2), [op, b1, b2], s⟩

/-- The form of an opcode the block implements (R84, log 4). -/
def implementedForm (ps : Params) (op : Byte) : Option Form :=
  if ps.implementedOpcodes.contains op then opcodeForm op else none

/-- Fetch: the opcode through the bus, then its operand bytes; an opcode without a table entry is fatal (R84, R87). -/
def fetch (s : State) : Except Fault Fetched :=
  match busRead s.pc s with
  | .error f => .error f
  | .ok (op, t) =>
    match implementedForm s.params op with
    | none => .error (.unimplementedOpcode op s.pc)
    | some form => fetchForm op form s.pc t

/-- Put a byte into the storage behind an address: WRAM, or PRG as a cartridge load does. The other regions store
nothing (log 13). -/
def placeByte (a : Addr) (v : Byte) (s : State) : State :=
  match region a with
  | .wram => { s with wram := s.wram.write (wramIndex a) v }
  | .prg => { s with prg := s.prg.write (prgIndex s a) v }
  | .ppu | .apu | .expansion | .sram => s

/-- Put bytes at consecutive addresses (R80). -/
def placeBytes (a : Addr) (bs : List Byte) (s : State) : State :=
  match bs with
  | [] => s
  | b :: bs => placeBytes (a + 1) bs (placeByte a b s)

/-- Make the bytes the next instruction that a step fetches: stored at PC, the core running, no breakpoint there
(log 13). -/
def placeInstruction (bs : List Byte) (s : State) : State :=
  { placeBytes s.pc bs s with status := .running, breakpoints := s.breakpoints.filter (fun b => b != s.pc) }

end Sys2Proof.Machine
end

