-- ==== Sys2Proof/Machine/Operands.lean ====
section
/-! DEFINITION. The addressing-mode resolver (spec/40_addressing.md) and the instruction shapes of R113, R114 and R120:
read-class, store, read-modify-write, accumulator, immediate, implied and branch. Each meaning in the family files is one
of these shapes applied to its row's mode, base cycles and effect. -/

namespace Sys2Proof.Machine

/-! ### Effective addresses -/

/-- The address before the index is added, for the page-cross test (R116); the effective address itself in the modes
that have no such test. -/
def baseAddress (m : MemMode) (s : State) : Addr :=
  match m with
  | .zeroPage z => zext16 z
  | .zeroPageX z => zext16 (z + s.x)
  | .zeroPageY z => zext16 (z + s.y)
  | .absolute w => w
  | .absoluteX w => w
  | .absoluteY w => w
  | .indexedIndirectX z => zpWord (z + s.x) s
  | .indirectIndexedY z => zpWord z s

/-- The effective address (R103 to R108, R110, R111). -/
def effAddress (m : MemMode) (s : State) : Addr :=
  match m with
  | .zeroPage z => zext16 z
  | .zeroPageX z => zext16 (z + s.x)
  | .zeroPageY z => zext16 (z + s.y)
  | .absolute w => w
  | .absoluteX w => w + zext16 s.x
  | .absoluteY w => w + zext16 s.y
  | .indexedIndirectX z => zpWord (z + s.x) s
  | .indirectIndexedY z => zpWord z s + zext16 s.y

/-- The state after the mode's pointer reads (R110, R111, R113); the other modes read nothing. -/
def afterPointer (m : MemMode) (s : State) : State :=
  match m with
  | .indexedIndirectX z => zpTouch (z + s.x) s
  | .indirectIndexedY z => zpTouch z s
  | _ => s

/-- The length of an instruction in the mode (R80). -/
def memLength (m : MemMode) : Nat := (Operand.memory m).mode.length

/-- The page-cross penalty of R117 for a row that is eligible (`eligible`). -/
def pagePenalty (eligible : Bool) (m : MemMode) (s : State) : Nat :=
  extraCycle (eligible && crossed (baseAddress m s) (effAddress m s))

/-- `M = MemRead(EA, 1)`, once, after the pointer reads (R114). -/
def readOperand (m : MemMode) (s : State) : Except Fault (Byte × State) :=
  busRead (effAddress m s) (afterPointer m s)

/-- The address the high byte of JMP's indirect target is read from (R112). -/
def indirectHigh (w : Addr) (wrap : Bool) : Addr :=
  if wrap then (w &&& 0xFF00) ||| ((w + 1) &&& 0x00FF) else w + 1

/-- The target of JMP's Indirect mode and the state after the two pointer reads (R112). -/
def indirectTarget (w : Addr) (s : State) : Except Fault (Addr × State) :=
  readPair w (indirectHigh w s.params.jmpIndirectPageWrap) s

/-- A branch's target (R115). -/
def branchTarget (off : Byte) (s : State) : Addr := s.pc + 2 + sext16 off

/-! ### Instruction shapes -/

/-- A read-class instruction in a memory mode: read the operand, apply the effect, end (R114, R88, R117). -/
def readClass (effect : Byte → State → State) (m : MemMode) (base : Nat) (eligible : Bool) (s : State) : Result :=
  match readOperand m s with
  | .error f => .fault f
  | .ok (v, t) => .next (finish (memLength m) (base + pagePenalty eligible m s) (effect v t))

/-- A store: write a value formed from registers at EA, without reading there (R113, R66). -/
def storeClass (value : State → Byte) (m : MemMode) (base : Nat) (s : State) : Result :=
  match busWrite (effAddress m s) (value s) (afterPointer m s) with
  | .error f => .fault f
  | .ok t => .next (finish (memLength m) base t)

/-- A read-modify-write instruction: one read and one write at the same EA, then the effect of the result and the new
carry (R114, R66, R230). -/
def rmwClass (op : Byte → Bool → Byte × Bool) (effect : Byte → Bool → State → State) (m : MemMode) (base : Nat)
    (s : State) : Result :=
  match readOperand m s with
  | .error f => .fault f
  | .ok (v, t) =>
    match busWrite (effAddress m s) (op v s.p.c).1 t with
    | .error f => .fault f
    | .ok t => .next (finish (memLength m) base (effect (op v s.p.c).1 (op v s.p.c).2 t))

/-- An instruction whose operand is the immediate byte (R109). -/
def immediateClass (effect : Byte → State → State) (v : Byte) (base : Nat) (s : State) : Result :=
  .next (finish 2 base (effect v s))

/-- A one-byte instruction on named registers or flags, the accumulator forms among them (R101, R102). -/
def impliedClass (effect : State → State) (base : Nat) (s : State) : Result :=
  .next (finish 1 base (effect s))

/-- A conditional branch (R206, R118). -/
def branchClass (cond : Flags → Bool) (off : Byte) (base : Nat) (s : State) : Result :=
  if cond s.p then
    .next (spend (base + 1 + extraCycle (crossed (s.pc + 2) (branchTarget off s))) (jumpTo (branchTarget off s) s))
  else .next (finish 2 base s)

/-! ### Effects on registers and flags -/

/-- `A <- v; SetNZ(A)`. -/
def setA (v : Byte) (s : State) : State := { s with a := v, p := s.p.setNZ v }

/-- `X <- v; SetNZ(X)`. -/
def setX (v : Byte) (s : State) : State := { s with x := v, p := s.p.setNZ v }

/-- `Y <- v; SetNZ(Y)`. -/
def setY (v : Byte) (s : State) : State := { s with y := v, p := s.p.setNZ v }

/-- `AddWithCarry(v)` (R150). -/
def addToA (v : Byte) (s : State) : State := { s with a := addResult s.a v s.p.c, p := s.p.add s.a v }

/-- SBC: `AddWithCarry` of the complement (R151). -/
def subFromA (v : Byte) (s : State) : State := addToA (~~~v) s

/-- AND with the accumulator (R152). -/
def andA (v : Byte) (s : State) : State := setA (s.a &&& v) s

/-- OR with the accumulator (R153). -/
def orA (v : Byte) (s : State) : State := setA (s.a ||| v) s

/-- Exclusive OR with the accumulator (R154). -/
def eorA (v : Byte) (s : State) : State := setA (s.a ^^^ v) s

/-- BIT (R155). -/
def bitA (v : Byte) (s : State) : State := { s with p := s.p.bitTest s.a v }

/-- `Compare(A, v)` (R156). -/
def compareA (v : Byte) (s : State) : State := { s with p := s.p.compare s.a v }

/-- `Compare(X, v)` (R157). -/
def compareX (v : Byte) (s : State) : State := { s with p := s.p.compare s.x v }

/-- `Compare(Y, v)` (R158). -/
def compareY (v : Byte) (s : State) : State := { s with p := s.p.compare s.y v }

/-- *LAX: A and X take the byte (R232). -/
def setAX (v : Byte) (s : State) : State := { s with a := v, x := v, p := s.p.setNZ v }

/-- The operand is discarded (R231). -/
def discard (_v : Byte) (s : State) : State := s

/-- `P.C <- c`. -/
def setC (c : Bool) (s : State) : State := { s with p := { s.p with c := c } }

/-- `P.C <- c; SetNZ(r)`: the flags of a shift, and of INC and DEC, whose carry passes through. -/
def setCNZ (r : Byte) (c : Bool) (s : State) : State := { s with p := { s.p with c := c }.setNZ r }

/-- The accumulator form of a shift (spec/43_shift_rotate.md). -/
def shiftA (op : Byte → Bool → Byte × Bool) (s : State) : State :=
  setCNZ (op s.a s.p.c).1 (op s.a s.p.c).2 { s with a := (op s.a s.p.c).1 }

/-- The value *SAX stores (R233). -/
def andAX (s : State) : Byte := s.a &&& s.x

/-- *DCP's second operation: compare A with the result (R235). -/
def thenCompare (r : Byte) (_c : Bool) (s : State) : State := compareA r s

/-- *ISB's second operation: subtract the result (R236). -/
def thenSub (r : Byte) (_c : Bool) (s : State) : State := subFromA r s

/-- *SLO's carry and second operation (R237). -/
def thenOr (r : Byte) (c : Bool) (s : State) : State := orA r (setC c s)

/-- *RLA's carry and second operation (R238). -/
def thenAnd (r : Byte) (c : Bool) (s : State) : State := andA r (setC c s)

/-- *SRE's carry and second operation (R239). -/
def thenEor (r : Byte) (c : Bool) (s : State) : State := eorA r (setC c s)

/-- *RRA's carry and second operation, which adds with the rotate's carry (R240). -/
def thenAdd (r : Byte) (c : Bool) (s : State) : State := addToA r (setC c s)

/-- `A <- Pull(); SetNZ(A)` (R192). -/
def pullToA (s : State) : State := setA (pull s).1 (pull s).2

/-- `RestoreP(Pull())` (R193). -/
def pullToP (s : State) : State := { (pull s).2 with p := s.p.restore (pull s).1 }

end Sys2Proof.Machine
end

