-- ==== Sys2Proof/Machine/Trace.lean ====
section
/-! DEFINITION. The trace line of spec/60_exceptions.md R276 and R277, by field and as text. -/

namespace Sys2Proof.Machine

/-- The mnemonics whose operand is read before anything is written: the read-class of R114. -/
def readsOperand : Mnemonic → Bool
  | .lda | .ldx | .ldy | .adc | .sbc | .and | .ora | .eor | .bit | .cmp | .cpx | .cpy => true
  | .uNop | .lax | .uSbc => true
  | _ => false

/-- `vv` of R277: the byte the operand read returns for a read-class instruction, a peek otherwise. -/
def traceValue (mn : Mnemonic) (m : MemMode) (s : State) : Option Byte :=
  if readsOperand mn then
    match readOperand m s with
    | .ok (v, _) => some v
    | .error _ => none
  else peek (effAddress m s) s

/-- The operand part for a memory mode (R277). -/
def traceMemory (mn : Mnemonic) (m : MemMode) (s : State) : TraceOperand :=
  match m with
  | .zeroPage z => .zeroPage z (traceValue mn m s)
  | .zeroPageX z => .zeroPageX z (lo (effAddress m s)) (traceValue mn m s)
  | .zeroPageY z => .zeroPageY z (lo (effAddress m s)) (traceValue mn m s)
  | .absolute w => .absolute w (traceValue mn m s)
  | .absoluteX w => .absoluteX w (effAddress m s) (traceValue mn m s)
  | .absoluteY w => .absoluteY w (effAddress m s) (traceValue mn m s)
  | .indexedIndirectX z => .indexedIndirectX z (z + s.x) (effAddress m s) (traceValue mn m s)
  | .indirectIndexedY z => .indirectIndexedY z (baseAddress m s) (effAddress m s) (traceValue mn m s)

/-- The operand part of an instruction that is about to execute in `s` (R277). -/
def traceOperand (i : Instr) (s : State) : TraceOperand :=
  match i.operand with
  | .implied => .implied
  | .accumulator => .accumulator
  | .immediate v => .immediate v
  | .memory m => traceMemory i.mnemonic m s
  | .target w => .target w
  | .indirect w =>
    match indirectTarget w s with
    | .ok (t, _) => .indirect w t
    | .error _ => .target w
  | .relative off => .relative (branchTarget off s)

/-- The trace line of a fetched instruction: registers, flags and CYC as before the step (`s`), operand resolved in
the state that executes (R87, R276). -/
def traceLine (s : State) (f : Fetched) : TraceLine where
  pc       := s.pc
  bytes    := f.bytes
  mnemonic := f.instr.mnemonic
  operand  := traceOperand f.instr f.after
  a        := s.a
  x        := s.x
  y        := s.y
  p        := s.p.encode
  sp       := s.sp
  cyc      := s.cyc

/-! ### Unspecified bytes

I14 lets `vv` be any byte where the peek is unspecified. Text and comparison use the same free byte for it (log 9). -/

/-- The byte a line shows for `vv` at an effective address: a free value where the peek is unspecified (I14, log 9). -/
def shownByte (ea : Addr) (cyc : Nat) (vv : Option Byte) : Byte := vv.getD (Config.unspecifiedPeek ea cyc)

/-- The operand part with every byte it shows filled in. -/
def TraceOperand.shown (cyc : Nat) : TraceOperand → TraceOperand
  | .implied => .implied
  | .accumulator => .accumulator
  | .immediate v => .immediate v
  | .zeroPage z vv => .zeroPage z (some (shownByte (zext16 z) cyc vv))
  | .zeroPageX z ee vv => .zeroPageX z ee (some (shownByte (zext16 ee) cyc vv))
  | .zeroPageY z ee vv => .zeroPageY z ee (some (shownByte (zext16 ee) cyc vv))
  | .absolute w vv => .absolute w (some (shownByte w cyc vv))
  | .absoluteX w ea vv => .absoluteX w ea (some (shownByte ea cyc vv))
  | .absoluteY w ea vv => .absoluteY w ea (some (shownByte ea cyc vv))
  | .indexedIndirectX z pp ea vv => .indexedIndirectX z pp ea (some (shownByte ea cyc vv))
  | .indirectIndexedY z bb ea vv => .indirectIndexedY z bb ea (some (shownByte ea cyc vv))
  | .target w => .target w
  | .indirect w t => .indirect w t
  | .relative t => .relative t

/-- The line with every byte it shows filled in. -/
def TraceLine.shown (l : TraceLine) : TraceLine := { l with operand := l.operand.shown l.cyc }

/-! ### As text -/

/-- One upper-case hex digit. -/
def hexDigit (n : Nat) : Char := if n < 10 then Char.ofNat (48 + n) else Char.ofNat (55 + n)

/-- Two upper-case hex digits (R90). -/
def hex8 (b : Byte) : List Char := [hexDigit (b.toNat / 16), hexDigit (b.toNat % 16)]

/-- Four upper-case hex digits (R90). -/
def hex16 (w : Addr) : List Char := hex8 (hi w) ++ hex8 (lo w)

/-- The mnemonic's three letters. -/
def mnemonicText : Mnemonic → String
  | .lda => "LDA" | .ldx => "LDX" | .ldy => "LDY" | .sta => "STA" | .stx => "STX" | .sty => "STY"
  | .tax => "TAX" | .tay => "TAY" | .txa => "TXA" | .tya => "TYA" | .tsx => "TSX" | .txs => "TXS"
  | .adc => "ADC" | .sbc => "SBC" | .and => "AND" | .ora => "ORA" | .eor => "EOR" | .bit => "BIT"
  | .cmp => "CMP" | .cpx => "CPX" | .cpy => "CPY" | .inc => "INC" | .dec => "DEC" | .inx => "INX"
  | .iny => "INY" | .dex => "DEX" | .dey => "DEY" | .asl => "ASL" | .lsr => "LSR" | .rol => "ROL"
  | .ror => "ROR" | .pha => "PHA" | .php => "PHP" | .pla => "PLA" | .plp => "PLP" | .jmp => "JMP"
  | .jsr => "JSR" | .rts => "RTS" | .rti => "RTI" | .brk => "BRK" | .bcc => "BCC" | .bcs => "BCS"
  | .beq => "BEQ" | .bne => "BNE" | .bmi => "BMI" | .bpl => "BPL" | .bvc => "BVC" | .bvs => "BVS"
  | .clc => "CLC" | .sec => "SEC" | .cli => "CLI" | .sei => "SEI" | .cld => "CLD" | .sed => "SED"
  | .clv => "CLV" | .nop => "NOP" | .uNop => "NOP" | .lax => "LAX" | .sax => "SAX" | .uSbc => "SBC"
  | .dcp => "DCP" | .isb => "ISB" | .slo => "SLO" | .rla => "RLA" | .sre => "SRE" | .rra => "RRA"

/-- The mnemonics written with a leading `*` (R90). -/
def unofficial : Mnemonic → Bool
  | .uNop | .lax | .sax | .uSbc | .dcp | .isb | .slo | .rla | .sre | .rra => true
  | _ => false

/-- ` = vv`. -/
def valueText (ea : Addr) (cyc : Nat) (vv : Option Byte) : List Char := " = ".toList ++ hex8 (shownByte ea cyc vv)

/-- The operand text per mode (R277). -/
def operandText (cyc : Nat) : TraceOperand → List Char
  | .implied => []
  | .accumulator => "A".toList
  | .immediate v => "#$".toList ++ hex8 v
  | .zeroPage z vv => "$".toList ++ hex8 z ++ valueText (zext16 z) cyc vv
  | .zeroPageX z ee vv => "$".toList ++ hex8 z ++ ",X @ ".toList ++ hex8 ee ++ valueText (zext16 ee) cyc vv
  | .zeroPageY z ee vv => "$".toList ++ hex8 z ++ ",Y @ ".toList ++ hex8 ee ++ valueText (zext16 ee) cyc vv
  | .absolute w vv => "$".toList ++ hex16 w ++ valueText w cyc vv
  | .absoluteX w ea vv => "$".toList ++ hex16 w ++ ",X @ ".toList ++ hex16 ea ++ valueText ea cyc vv
  | .absoluteY w ea vv => "$".toList ++ hex16 w ++ ",Y @ ".toList ++ hex16 ea ++ valueText ea cyc vv
  | .indexedIndirectX z pp ea vv =>
    "($".toList ++ hex8 z ++ ",X) @ ".toList ++ hex8 pp ++ " = ".toList ++ hex16 ea ++ valueText ea cyc vv
  | .indirectIndexedY z bb ea vv =>
    "($".toList ++ hex8 z ++ "),Y = ".toList ++ hex16 bb ++ " @ ".toList ++ hex16 ea ++ valueText ea cyc vv
  | .target w => "$".toList ++ hex16 w
  | .indirect w t => "($".toList ++ hex16 w ++ ") = ".toList ++ hex16 t
  | .relative t => "$".toList ++ hex16 t

/-- Bytes in hex, separated by spaces. -/
def bytesText : List Byte → List Char
  | [] => []
  | [b] => hex8 b
  | b :: bs => hex8 b ++ ' ' :: bytesText bs

/-- Pad with spaces up to a column. -/
def padTo (n : Nat) (t : List Char) : List Char := t ++ List.replicate (n - t.length) ' '

/-- The line's text in the nestest columns: PC at 0, bytes at 6, `*` at 15, mnemonic at 16, registers at 48 (R276). -/
def lineText (l : TraceLine) : List Char :=
  let star := if unofficial l.mnemonic then '*' else ' '
  let operand := operandText l.cyc l.operand
  let mnemonic := (mnemonicText l.mnemonic).toList
  let left := padTo 15 (padTo 6 (hex16 l.pc) ++ bytesText l.bytes) ++ star :: mnemonic ++
    (if operand = [] then [] else ' ' :: operand)
  padTo 48 left ++ "A:".toList ++ hex8 l.a ++ " X:".toList ++ hex8 l.x ++ " Y:".toList ++ hex8 l.y ++
    " P:".toList ++ hex8 l.p ++ " SP:".toList ++ hex8 l.sp ++ " CYC:".toList ++ Nat.toDigits 10 l.cyc

end Sys2Proof.Machine
end

