-- ==== Sys2Proof/Machine/Debug.lean ====
section
/-! DEFINITION. The debug observation port (spec/60_exceptions.md R270 to R274): what a step does about breakpoints,
watchpoints and the trace line, and what the host may call between steps. -/

namespace Sys2Proof.Machine

/-- Remove an address from a set. -/
def AddrSet.remove (a : Addr) (set : AddrSet) : AddrSet := set.filter (fun b => b != a)

/-- Insert an address into a set; one that is there already changes nothing (R273). -/
def AddrSet.insert (a : Addr) (set : AddrSet) : AddrSet :=
  match set with
  | [] => [a]
  | b :: set =>
    if a.toNat < b.toNat then a :: b :: set
    else if a = b then b :: set
    else b :: AddrSet.insert a set

/-- The canonical form of a set: strictly rising. -/
def AddrSet.wf (set : AddrSet) : Bool := decide (set.Pairwise (fun a b => a.toNat < b.toNat))

/-- A breakpoint fires: it is consumed and the core halts, nothing executed (R271). -/
def fireBreakpoint (s : State) : State :=
  { s with breakpoints := AddrSet.remove s.pc s.breakpoints, status := .halted (.breakpoint s.pc) }

/-- The end of an executed instruction: deliver its line, halt if an access touched a watchpoint (R274, R276). -/
def deliver (line : TraceLine) (s : State) : State :=
  { s with trace := s.trace ++ [line],
           status := if s.watchHit then .halted (.watchpoint line) else s.status }

/-- `add_breakpoint` (R272). -/
def addBreakpoint (a : Addr) (s : State) : State := { s with breakpoints := AddrSet.insert a s.breakpoints }

/-- `add_watchpoint` (R272). -/
def addWatchpoint (a : Addr) (s : State) : State := { s with watchpoints := AddrSet.insert a s.watchpoints }

/-- The host resumes a halted core and changes nothing else (R270); any other status stays (log 15). -/
def resume (s : State) : State :=
  match s.status with
  | .halted _ => { s with status := .running }
  | .running | .faulted _ => s

/-- What `current_register_snapshot()` returns (R272). -/
structure Snapshot where
  pc  : Addr
  a   : Byte
  x   : Byte
  y   : Byte
  sp  : Byte
  p   : Byte
  cyc : Nat
  deriving DecidableEq, Repr

/-- `current_register_snapshot()` (R272). -/
def registerSnapshot (s : State) : Snapshot := ⟨s.pc, s.a, s.x, s.y, s.sp, s.p.encode, s.cyc⟩

/-- `current_memory_window(range)`: `n` peeks from an address on (R272). -/
def memoryWindow (a : Addr) (n : Nat) (s : State) : List (Option Byte) :=
  match n with
  | 0 => []
  | n + 1 => peek a s :: memoryWindow (a + 1) n s

end Sys2Proof.Machine
end

