-- ==== Sys2Proof/Machine/Arith.lean ====
section
/-! DEFINITION. Meanings of arithmetic, logic, compare, increment and decrement (spec/42_arith_logic.md), one definition per opcode. -/

namespace Sys2Proof.Machine

/-- ADC (z,X), 0x61 (R150). -/
def execAdcIndX (z : Byte) (s : State) : Result := readClass addToA (.indexedIndirectX z) 6 false s

/-- ADC z, 0x65 (R150). -/
def execAdcZp (z : Byte) (s : State) : Result := readClass addToA (.zeroPage z) 3 false s

/-- ADC #v, 0x69 (R150). -/
def execAdcImm (v : Byte) (s : State) : Result := immediateClass addToA v 2 s

/-- ADC w, 0x6D (R150). -/
def execAdcAbs (w : Addr) (s : State) : Result := readClass addToA (.absolute w) 4 false s

/-- ADC (z),Y, 0x71 (R150). -/
def execAdcIndY (z : Byte) (s : State) : Result := readClass addToA (.indirectIndexedY z) 5 true s

/-- ADC z,X, 0x75 (R150). -/
def execAdcZpX (z : Byte) (s : State) : Result := readClass addToA (.zeroPageX z) 4 false s

/-- ADC w,Y, 0x79 (R150). -/
def execAdcAbsY (w : Addr) (s : State) : Result := readClass addToA (.absoluteY w) 4 true s

/-- ADC w,X, 0x7D (R150). -/
def execAdcAbsX (w : Addr) (s : State) : Result := readClass addToA (.absoluteX w) 4 true s

/-- SBC (z,X), 0xE1 (R151). -/
def execSbcIndX (z : Byte) (s : State) : Result := readClass subFromA (.indexedIndirectX z) 6 false s

/-- SBC z, 0xE5 (R151). -/
def execSbcZp (z : Byte) (s : State) : Result := readClass subFromA (.zeroPage z) 3 false s

/-- SBC #v, 0xE9 (R151). -/
def execSbcImm (v : Byte) (s : State) : Result := immediateClass subFromA v 2 s

/-- SBC w, 0xED (R151). -/
def execSbcAbs (w : Addr) (s : State) : Result := readClass subFromA (.absolute w) 4 false s

/-- SBC (z),Y, 0xF1 (R151). -/
def execSbcIndY (z : Byte) (s : State) : Result := readClass subFromA (.indirectIndexedY z) 5 true s

/-- SBC z,X, 0xF5 (R151). -/
def execSbcZpX (z : Byte) (s : State) : Result := readClass subFromA (.zeroPageX z) 4 false s

/-- SBC w,Y, 0xF9 (R151). -/
def execSbcAbsY (w : Addr) (s : State) : Result := readClass subFromA (.absoluteY w) 4 true s

/-- SBC w,X, 0xFD (R151). -/
def execSbcAbsX (w : Addr) (s : State) : Result := readClass subFromA (.absoluteX w) 4 true s

/-- AND (z,X), 0x21 (R152). -/
def execAndIndX (z : Byte) (s : State) : Result := readClass andA (.indexedIndirectX z) 6 false s

/-- AND z, 0x25 (R152). -/
def execAndZp (z : Byte) (s : State) : Result := readClass andA (.zeroPage z) 3 false s

/-- AND #v, 0x29 (R152). -/
def execAndImm (v : Byte) (s : State) : Result := immediateClass andA v 2 s

/-- AND w, 0x2D (R152). -/
def execAndAbs (w : Addr) (s : State) : Result := readClass andA (.absolute w) 4 false s

/-- AND (z),Y, 0x31 (R152). -/
def execAndIndY (z : Byte) (s : State) : Result := readClass andA (.indirectIndexedY z) 5 true s

/-- AND z,X, 0x35 (R152). -/
def execAndZpX (z : Byte) (s : State) : Result := readClass andA (.zeroPageX z) 4 false s

/-- AND w,Y, 0x39 (R152). -/
def execAndAbsY (w : Addr) (s : State) : Result := readClass andA (.absoluteY w) 4 true s

/-- AND w,X, 0x3D (R152). -/
def execAndAbsX (w : Addr) (s : State) : Result := readClass andA (.absoluteX w) 4 true s

/-- ORA (z,X), 0x01 (R153). -/
def execOraIndX (z : Byte) (s : State) : Result := readClass orA (.indexedIndirectX z) 6 false s

/-- ORA z, 0x05 (R153). -/
def execOraZp (z : Byte) (s : State) : Result := readClass orA (.zeroPage z) 3 false s

/-- ORA #v, 0x09 (R153). -/
def execOraImm (v : Byte) (s : State) : Result := immediateClass orA v 2 s

/-- ORA w, 0x0D (R153). -/
def execOraAbs (w : Addr) (s : State) : Result := readClass orA (.absolute w) 4 false s

/-- ORA (z),Y, 0x11 (R153). -/
def execOraIndY (z : Byte) (s : State) : Result := readClass orA (.indirectIndexedY z) 5 true s

/-- ORA z,X, 0x15 (R153). -/
def execOraZpX (z : Byte) (s : State) : Result := readClass orA (.zeroPageX z) 4 false s

/-- ORA w,Y, 0x19 (R153). -/
def execOraAbsY (w : Addr) (s : State) : Result := readClass orA (.absoluteY w) 4 true s

/-- ORA w,X, 0x1D (R153). -/
def execOraAbsX (w : Addr) (s : State) : Result := readClass orA (.absoluteX w) 4 true s

/-- EOR (z,X), 0x41 (R154). -/
def execEorIndX (z : Byte) (s : State) : Result := readClass eorA (.indexedIndirectX z) 6 false s

/-- EOR z, 0x45 (R154). -/
def execEorZp (z : Byte) (s : State) : Result := readClass eorA (.zeroPage z) 3 false s

/-- EOR #v, 0x49 (R154). -/
def execEorImm (v : Byte) (s : State) : Result := immediateClass eorA v 2 s

/-- EOR w, 0x4D (R154). -/
def execEorAbs (w : Addr) (s : State) : Result := readClass eorA (.absolute w) 4 false s

/-- EOR (z),Y, 0x51 (R154). -/
def execEorIndY (z : Byte) (s : State) : Result := readClass eorA (.indirectIndexedY z) 5 true s

/-- EOR z,X, 0x55 (R154). -/
def execEorZpX (z : Byte) (s : State) : Result := readClass eorA (.zeroPageX z) 4 false s

/-- EOR w,Y, 0x59 (R154). -/
def execEorAbsY (w : Addr) (s : State) : Result := readClass eorA (.absoluteY w) 4 true s

/-- EOR w,X, 0x5D (R154). -/
def execEorAbsX (w : Addr) (s : State) : Result := readClass eorA (.absoluteX w) 4 true s

/-- BIT z, 0x24 (R155). -/
def execBitZp (z : Byte) (s : State) : Result := readClass bitA (.zeroPage z) 3 false s

/-- BIT w, 0x2C (R155). -/
def execBitAbs (w : Addr) (s : State) : Result := readClass bitA (.absolute w) 4 false s

/-- CMP (z,X), 0xC1 (R156). -/
def execCmpIndX (z : Byte) (s : State) : Result := readClass compareA (.indexedIndirectX z) 6 false s

/-- CMP z, 0xC5 (R156). -/
def execCmpZp (z : Byte) (s : State) : Result := readClass compareA (.zeroPage z) 3 false s

/-- CMP #v, 0xC9 (R156). -/
def execCmpImm (v : Byte) (s : State) : Result := immediateClass compareA v 2 s

/-- CMP w, 0xCD (R156). -/
def execCmpAbs (w : Addr) (s : State) : Result := readClass compareA (.absolute w) 4 false s

/-- CMP (z),Y, 0xD1 (R156). -/
def execCmpIndY (z : Byte) (s : State) : Result := readClass compareA (.indirectIndexedY z) 5 true s

/-- CMP z,X, 0xD5 (R156). -/
def execCmpZpX (z : Byte) (s : State) : Result := readClass compareA (.zeroPageX z) 4 false s

/-- CMP w,Y, 0xD9 (R156). -/
def execCmpAbsY (w : Addr) (s : State) : Result := readClass compareA (.absoluteY w) 4 true s

/-- CMP w,X, 0xDD (R156). -/
def execCmpAbsX (w : Addr) (s : State) : Result := readClass compareA (.absoluteX w) 4 true s

/-- CPX #v, 0xE0 (R157). -/
def execCpxImm (v : Byte) (s : State) : Result := immediateClass compareX v 2 s

/-- CPX z, 0xE4 (R157). -/
def execCpxZp (z : Byte) (s : State) : Result := readClass compareX (.zeroPage z) 3 false s

/-- CPX w, 0xEC (R157). -/
def execCpxAbs (w : Addr) (s : State) : Result := readClass compareX (.absolute w) 4 false s

/-- CPY #v, 0xC0 (R158). -/
def execCpyImm (v : Byte) (s : State) : Result := immediateClass compareY v 2 s

/-- CPY z, 0xC4 (R158). -/
def execCpyZp (z : Byte) (s : State) : Result := readClass compareY (.zeroPage z) 3 false s

/-- CPY w, 0xCC (R158). -/
def execCpyAbs (w : Addr) (s : State) : Result := readClass compareY (.absolute w) 4 false s

/-- INC z, 0xE6 (R159). -/
def execIncZp (z : Byte) (s : State) : Result := rmwClass incByte setCNZ (.zeroPage z) 5 s

/-- INC w, 0xEE (R159). -/
def execIncAbs (w : Addr) (s : State) : Result := rmwClass incByte setCNZ (.absolute w) 6 s

/-- INC z,X, 0xF6 (R159). -/
def execIncZpX (z : Byte) (s : State) : Result := rmwClass incByte setCNZ (.zeroPageX z) 6 s

/-- INC w,X, 0xFE (R159). -/
def execIncAbsX (w : Addr) (s : State) : Result := rmwClass incByte setCNZ (.absoluteX w) 7 s

/-- DEC z, 0xC6 (R160). -/
def execDecZp (z : Byte) (s : State) : Result := rmwClass decByte setCNZ (.zeroPage z) 5 s

/-- DEC w, 0xCE (R160). -/
def execDecAbs (w : Addr) (s : State) : Result := rmwClass decByte setCNZ (.absolute w) 6 s

/-- DEC z,X, 0xD6 (R160). -/
def execDecZpX (z : Byte) (s : State) : Result := rmwClass decByte setCNZ (.zeroPageX z) 6 s

/-- DEC w,X, 0xDE (R160). -/
def execDecAbsX (w : Addr) (s : State) : Result := rmwClass decByte setCNZ (.absoluteX w) 7 s

/-- INX, 0xE8 (R161). -/
def execInx (s : State) : Result := impliedClass (fun s => setX (s.x + 1) s) 2 s

/-- INY, 0xC8 (R162). -/
def execIny (s : State) : Result := impliedClass (fun s => setY (s.y + 1) s) 2 s

/-- DEX, 0xCA (R163). -/
def execDex (s : State) : Result := impliedClass (fun s => setX (s.x - 1) s) 2 s

/-- DEY, 0x88 (R164). -/
def execDey (s : State) : Result := impliedClass (fun s => setY (s.y - 1) s) 2 s

end Sys2Proof.Machine
end

