-- ==== Sys2Proof/Machine/Control.lean ====
section
/-! DEFINITION. Meanings of jumps, calls, returns, BRK and branches (spec/45_control_flow.md), one definition per opcode. -/

namespace Sys2Proof.Machine

/-- JMP w, 0x4C (R200). -/
def execJmpAbs (w : Addr) (s : State) : Result := .next (spend 3 (jumpTo w s))

/-- JMP (w), 0x6C (R200). -/
def execJmpInd (w : Addr) (s : State) : Result :=
  match indirectTarget w s with
  | .error f => .fault f
  | .ok (t, s) => .next (spend 5 (jumpTo t s))

/-- JSR w, 0x20 (R202). -/
def execJsr (w : Addr) (s : State) : Result := .next (spend 6 (jumpTo w (pushWord (s.pc + 2) s)))

/-- RTS, 0x60 (R203). -/
def execRts (s : State) : Result := .next (spend 6 (jumpTo ((pullWord s).1 + 1) (pullWord s).2))

/-- RTI, 0x40 (R205). -/
def execRti (s : State) : Result := .next (spend 6 (returnFromBreak s))

/-- BRK, 0x00 (R204). -/
def execBrk (s : State) : Result := toResult ((takeBreak s).map (spend 7))

/-- BCC off, 0x90 (R207). -/
def execBcc (off : Byte) (s : State) : Result := branchClass (fun p => !p.c) off 2 s

/-- BCS off, 0xB0 (R208). -/
def execBcs (off : Byte) (s : State) : Result := branchClass (fun p => p.c) off 2 s

/-- BEQ off, 0xF0 (R209). -/
def execBeq (off : Byte) (s : State) : Result := branchClass (fun p => p.z) off 2 s

/-- BNE off, 0xD0 (R210). -/
def execBne (off : Byte) (s : State) : Result := branchClass (fun p => !p.z) off 2 s

/-- BMI off, 0x30 (R211). -/
def execBmi (off : Byte) (s : State) : Result := branchClass (fun p => p.n) off 2 s

/-- BPL off, 0x10 (R212). -/
def execBpl (off : Byte) (s : State) : Result := branchClass (fun p => !p.n) off 2 s

/-- BVC off, 0x50 (R213). -/
def execBvc (off : Byte) (s : State) : Result := branchClass (fun p => !p.v) off 2 s

/-- BVS off, 0x70 (R214). -/
def execBvs (off : Byte) (s : State) : Result := branchClass (fun p => p.v) off 2 s

end Sys2Proof.Machine
end

