-- ==== Sys2Proof/Machine/FlagMisc.lean ====
section
/-! DEFINITION. Meanings of flag instructions and NOP (spec/46_flag_misc.md), one definition per opcode. -/

namespace Sys2Proof.Machine

/-- CLC, 0x18 (R220). -/
def execClc (s : State) : Result := impliedClass (fun s => setC false s) 2 s

/-- SEC, 0x38 (R221). -/
def execSec (s : State) : Result := impliedClass (fun s => setC true s) 2 s

/-- CLI, 0x58 (R222). -/
def execCli (s : State) : Result := impliedClass (fun s => { s with p := { s.p with i := false } }) 2 s

/-- SEI, 0x78 (R223). -/
def execSei (s : State) : Result := impliedClass (fun s => { s with p := { s.p with i := true } }) 2 s

/-- CLD, 0xD8 (R224). -/
def execCld (s : State) : Result := impliedClass (fun s => { s with p := { s.p with d := false } }) 2 s

/-- SED, 0xF8 (R225). -/
def execSed (s : State) : Result := impliedClass (fun s => { s with p := { s.p with d := true } }) 2 s

/-- CLV, 0xB8 (R226). -/
def execClv (s : State) : Result := impliedClass (fun s => { s with p := { s.p with v := false } }) 2 s

/-- NOP, 0xEA (R227). -/
def execNop (s : State) : Result := impliedClass id 2 s

end Sys2Proof.Machine
end

