-- ==== Sys2Proof/Machine/LoadStore.lean ====
section
/-! DEFINITION. Meanings of loads, stores and register transfers (spec/41_load_store_transfer.md), one definition per opcode. -/

namespace Sys2Proof.Machine

/-- LDA (z,X), 0xA1 (R130). -/
def execLdaIndX (z : Byte) (s : State) : Result := readClass setA (.indexedIndirectX z) 6 false s

/-- LDA z, 0xA5 (R130). -/
def execLdaZp (z : Byte) (s : State) : Result := readClass setA (.zeroPage z) 3 false s

/-- LDA #v, 0xA9 (R130). -/
def execLdaImm (v : Byte) (s : State) : Result := immediateClass setA v 2 s

/-- LDA w, 0xAD (R130). -/
def execLdaAbs (w : Addr) (s : State) : Result := readClass setA (.absolute w) 4 false s

/-- LDA (z),Y, 0xB1 (R130). -/
def execLdaIndY (z : Byte) (s : State) : Result := readClass setA (.indirectIndexedY z) 5 true s

/-- LDA z,X, 0xB5 (R130). -/
def execLdaZpX (z : Byte) (s : State) : Result := readClass setA (.zeroPageX z) 4 false s

/-- LDA w,Y, 0xB9 (R130). -/
def execLdaAbsY (w : Addr) (s : State) : Result := readClass setA (.absoluteY w) 4 true s

/-- LDA w,X, 0xBD (R130). -/
def execLdaAbsX (w : Addr) (s : State) : Result := readClass setA (.absoluteX w) 4 true s

/-- LDX #v, 0xA2 (R131). -/
def execLdxImm (v : Byte) (s : State) : Result := immediateClass setX v 2 s

/-- LDX z, 0xA6 (R131). -/
def execLdxZp (z : Byte) (s : State) : Result := readClass setX (.zeroPage z) 3 false s

/-- LDX w, 0xAE (R131). -/
def execLdxAbs (w : Addr) (s : State) : Result := readClass setX (.absolute w) 4 false s

/-- LDX z,Y, 0xB6 (R131). -/
def execLdxZpY (z : Byte) (s : State) : Result := readClass setX (.zeroPageY z) 4 false s

/-- LDX w,Y, 0xBE (R131). -/
def execLdxAbsY (w : Addr) (s : State) : Result := readClass setX (.absoluteY w) 4 true s

/-- LDY #v, 0xA0 (R132). -/
def execLdyImm (v : Byte) (s : State) : Result := immediateClass setY v 2 s

/-- LDY z, 0xA4 (R132). -/
def execLdyZp (z : Byte) (s : State) : Result := readClass setY (.zeroPage z) 3 false s

/-- LDY w, 0xAC (R132). -/
def execLdyAbs (w : Addr) (s : State) : Result := readClass setY (.absolute w) 4 false s

/-- LDY z,X, 0xB4 (R132). -/
def execLdyZpX (z : Byte) (s : State) : Result := readClass setY (.zeroPageX z) 4 false s

/-- LDY w,X, 0xBC (R132). -/
def execLdyAbsX (w : Addr) (s : State) : Result := readClass setY (.absoluteX w) 4 true s

/-- STA (z,X), 0x81 (R133). -/
def execStaIndX (z : Byte) (s : State) : Result := storeClass State.a (.indexedIndirectX z) 6 s

/-- STA z, 0x85 (R133). -/
def execStaZp (z : Byte) (s : State) : Result := storeClass State.a (.zeroPage z) 3 s

/-- STA w, 0x8D (R133). -/
def execStaAbs (w : Addr) (s : State) : Result := storeClass State.a (.absolute w) 4 s

/-- STA (z),Y, 0x91 (R133). -/
def execStaIndY (z : Byte) (s : State) : Result := storeClass State.a (.indirectIndexedY z) 6 s

/-- STA z,X, 0x95 (R133). -/
def execStaZpX (z : Byte) (s : State) : Result := storeClass State.a (.zeroPageX z) 4 s

/-- STA w,Y, 0x99 (R133). -/
def execStaAbsY (w : Addr) (s : State) : Result := storeClass State.a (.absoluteY w) 5 s

/-- STA w,X, 0x9D (R133). -/
def execStaAbsX (w : Addr) (s : State) : Result := storeClass State.a (.absoluteX w) 5 s

/-- STX z, 0x86 (R134). -/
def execStxZp (z : Byte) (s : State) : Result := storeClass State.x (.zeroPage z) 3 s

/-- STX w, 0x8E (R134). -/
def execStxAbs (w : Addr) (s : State) : Result := storeClass State.x (.absolute w) 4 s

/-- STX z,Y, 0x96 (R134). -/
def execStxZpY (z : Byte) (s : State) : Result := storeClass State.x (.zeroPageY z) 4 s

/-- STY z, 0x84 (R135). -/
def execStyZp (z : Byte) (s : State) : Result := storeClass State.y (.zeroPage z) 3 s

/-- STY w, 0x8C (R135). -/
def execStyAbs (w : Addr) (s : State) : Result := storeClass State.y (.absolute w) 4 s

/-- STY z,X, 0x94 (R135). -/
def execStyZpX (z : Byte) (s : State) : Result := storeClass State.y (.zeroPageX z) 4 s

/-- TAX, 0xAA (R136). -/
def execTax (s : State) : Result := impliedClass (fun s => setX s.a s) 2 s

/-- TAY, 0xA8 (R137). -/
def execTay (s : State) : Result := impliedClass (fun s => setY s.a s) 2 s

/-- TXA, 0x8A (R138). -/
def execTxa (s : State) : Result := impliedClass (fun s => setA s.x s) 2 s

/-- TYA, 0x98 (R139). -/
def execTya (s : State) : Result := impliedClass (fun s => setA s.y s) 2 s

/-- TSX, 0xBA (R140). -/
def execTsx (s : State) : Result := impliedClass (fun s => setX s.sp s) 2 s

/-- TXS, 0x9A (R141). -/
def execTxs (s : State) : Result := impliedClass (fun s => { s with sp := s.x }) 2 s

end Sys2Proof.Machine
end

