-- ==== Sys2Proof/Machine/Shift.lean ====
section
/-! DEFINITION. Meanings of shifts and rotates (spec/43_shift_rotate.md), one definition per opcode. -/

namespace Sys2Proof.Machine

/-- ASL z, 0x06 (R180). -/
def execAslZp (z : Byte) (s : State) : Result := rmwClass shiftLeft setCNZ (.zeroPage z) 5 s

/-- ASL A, 0x0A (R180). -/
def execAslAcc (s : State) : Result := impliedClass (shiftA shiftLeft) 2 s

/-- ASL w, 0x0E (R180). -/
def execAslAbs (w : Addr) (s : State) : Result := rmwClass shiftLeft setCNZ (.absolute w) 6 s

/-- ASL z,X, 0x16 (R180). -/
def execAslZpX (z : Byte) (s : State) : Result := rmwClass shiftLeft setCNZ (.zeroPageX z) 6 s

/-- ASL w,X, 0x1E (R180). -/
def execAslAbsX (w : Addr) (s : State) : Result := rmwClass shiftLeft setCNZ (.absoluteX w) 7 s

/-- LSR z, 0x46 (R181). -/
def execLsrZp (z : Byte) (s : State) : Result := rmwClass shiftRight setCNZ (.zeroPage z) 5 s

/-- LSR A, 0x4A (R181). -/
def execLsrAcc (s : State) : Result := impliedClass (shiftA shiftRight) 2 s

/-- LSR w, 0x4E (R181). -/
def execLsrAbs (w : Addr) (s : State) : Result := rmwClass shiftRight setCNZ (.absolute w) 6 s

/-- LSR z,X, 0x56 (R181). -/
def execLsrZpX (z : Byte) (s : State) : Result := rmwClass shiftRight setCNZ (.zeroPageX z) 6 s

/-- LSR w,X, 0x5E (R181). -/
def execLsrAbsX (w : Addr) (s : State) : Result := rmwClass shiftRight setCNZ (.absoluteX w) 7 s

/-- ROL z, 0x26 (R182). -/
def execRolZp (z : Byte) (s : State) : Result := rmwClass rotateLeft setCNZ (.zeroPage z) 5 s

/-- ROL A, 0x2A (R182). -/
def execRolAcc (s : State) : Result := impliedClass (shiftA rotateLeft) 2 s

/-- ROL w, 0x2E (R182). -/
def execRolAbs (w : Addr) (s : State) : Result := rmwClass rotateLeft setCNZ (.absolute w) 6 s

/-- ROL z,X, 0x36 (R182). -/
def execRolZpX (z : Byte) (s : State) : Result := rmwClass rotateLeft setCNZ (.zeroPageX z) 6 s

/-- ROL w,X, 0x3E (R182). -/
def execRolAbsX (w : Addr) (s : State) : Result := rmwClass rotateLeft setCNZ (.absoluteX w) 7 s

/-- ROR z, 0x66 (R183). -/
def execRorZp (z : Byte) (s : State) : Result := rmwClass rotateRight setCNZ (.zeroPage z) 5 s

/-- ROR A, 0x6A (R183). -/
def execRorAcc (s : State) : Result := impliedClass (shiftA rotateRight) 2 s

/-- ROR w, 0x6E (R183). -/
def execRorAbs (w : Addr) (s : State) : Result := rmwClass rotateRight setCNZ (.absolute w) 6 s

/-- ROR z,X, 0x76 (R183). -/
def execRorZpX (z : Byte) (s : State) : Result := rmwClass rotateRight setCNZ (.zeroPageX z) 6 s

/-- ROR w,X, 0x7E (R183). -/
def execRorAbsX (w : Addr) (s : State) : Result := rmwClass rotateRight setCNZ (.absoluteX w) 7 s

end Sys2Proof.Machine
end

