-- ==== Sys2Proof/Machine/Stack.lean ====
section
/-! DEFINITION. Meanings of pushes and pulls (spec/44_stack.md), one definition per opcode. -/

namespace Sys2Proof.Machine

/-- PHA, 0x48 (R190). -/
def execPha (s : State) : Result := impliedClass (fun s => push s.a s) 3 s

/-- PHP, 0x08 (R191). -/
def execPhp (s : State) : Result := impliedClass (fun s => push s.p.pushed s) 3 s

/-- PLA, 0x68 (R192). -/
def execPla (s : State) : Result := impliedClass pullToA 4 s

/-- PLP, 0x28 (R193). -/
def execPlp (s : State) : Result := impliedClass pullToP 4 s

end Sys2Proof.Machine
end

