-- ==== Sys2Proof/Machine/Unofficial.lean ====
section
/-! DEFINITION. Meanings of the unofficial opcodes (spec/47_unofficial.md), one definition per opcode. -/

namespace Sys2Proof.Machine

/-- *NOP z, 0x04 (R231). -/
def execUNopZp04 (z : Byte) (s : State) : Result := readClass discard (.zeroPage z) 3 false s

/-- *NOP w, 0x0C (R231). -/
def execUNopAbs0C (w : Addr) (s : State) : Result := readClass discard (.absolute w) 4 false s

/-- *NOP z,X, 0x14 (R231). -/
def execUNopZpX14 (z : Byte) (s : State) : Result := readClass discard (.zeroPageX z) 4 false s

/-- *NOP, 0x1A (R231). -/
def execUNop1A (s : State) : Result := impliedClass id 2 s

/-- *NOP w,X, 0x1C (R231). -/
def execUNopAbsX1C (w : Addr) (s : State) : Result := readClass discard (.absoluteX w) 4 true s

/-- *NOP z,X, 0x34 (R231). -/
def execUNopZpX34 (z : Byte) (s : State) : Result := readClass discard (.zeroPageX z) 4 false s

/-- *NOP, 0x3A (R231). -/
def execUNop3A (s : State) : Result := impliedClass id 2 s

/-- *NOP w,X, 0x3C (R231). -/
def execUNopAbsX3C (w : Addr) (s : State) : Result := readClass discard (.absoluteX w) 4 true s

/-- *NOP z, 0x44 (R231). -/
def execUNopZp44 (z : Byte) (s : State) : Result := readClass discard (.zeroPage z) 3 false s

/-- *NOP z,X, 0x54 (R231). -/
def execUNopZpX54 (z : Byte) (s : State) : Result := readClass discard (.zeroPageX z) 4 false s

/-- *NOP, 0x5A (R231). -/
def execUNop5A (s : State) : Result := impliedClass id 2 s

/-- *NOP w,X, 0x5C (R231). -/
def execUNopAbsX5C (w : Addr) (s : State) : Result := readClass discard (.absoluteX w) 4 true s

/-- *NOP z, 0x64 (R231). -/
def execUNopZp64 (z : Byte) (s : State) : Result := readClass discard (.zeroPage z) 3 false s

/-- *NOP z,X, 0x74 (R231). -/
def execUNopZpX74 (z : Byte) (s : State) : Result := readClass discard (.zeroPageX z) 4 false s

/-- *NOP, 0x7A (R231). -/
def execUNop7A (s : State) : Result := impliedClass id 2 s

/-- *NOP w,X, 0x7C (R231). -/
def execUNopAbsX7C (w : Addr) (s : State) : Result := readClass discard (.absoluteX w) 4 true s

/-- *NOP #v, 0x80 (R231). -/
def execUNopImm80 (v : Byte) (s : State) : Result := immediateClass discard v 2 s

/-- *NOP z,X, 0xD4 (R231). -/
def execUNopZpXD4 (z : Byte) (s : State) : Result := readClass discard (.zeroPageX z) 4 false s

/-- *NOP, 0xDA (R231). -/
def execUNopDA (s : State) : Result := impliedClass id 2 s

/-- *NOP w,X, 0xDC (R231). -/
def execUNopAbsXDC (w : Addr) (s : State) : Result := readClass discard (.absoluteX w) 4 true s

/-- *NOP z,X, 0xF4 (R231). -/
def execUNopZpXF4 (z : Byte) (s : State) : Result := readClass discard (.zeroPageX z) 4 false s

/-- *NOP, 0xFA (R231). -/
def execUNopFA (s : State) : Result := impliedClass id 2 s

/-- *NOP w,X, 0xFC (R231). -/
def execUNopAbsXFC (w : Addr) (s : State) : Result := readClass discard (.absoluteX w) 4 true s

/-- *LAX (z,X), 0xA3 (R232). -/
def execLaxIndX (z : Byte) (s : State) : Result := readClass setAX (.indexedIndirectX z) 6 false s

/-- *LAX z, 0xA7 (R232). -/
def execLaxZp (z : Byte) (s : State) : Result := readClass setAX (.zeroPage z) 3 false s

/-- *LAX w, 0xAF (R232). -/
def execLaxAbs (w : Addr) (s : State) : Result := readClass setAX (.absolute w) 4 false s

/-- *LAX (z),Y, 0xB3 (R232). -/
def execLaxIndY (z : Byte) (s : State) : Result := readClass setAX (.indirectIndexedY z) 5 true s

/-- *LAX z,Y, 0xB7 (R232). -/
def execLaxZpY (z : Byte) (s : State) : Result := readClass setAX (.zeroPageY z) 4 false s

/-- *LAX w,Y, 0xBF (R232). -/
def execLaxAbsY (w : Addr) (s : State) : Result := readClass setAX (.absoluteY w) 4 true s

/-- *SAX (z,X), 0x83 (R233). -/
def execSaxIndX (z : Byte) (s : State) : Result := storeClass andAX (.indexedIndirectX z) 6 s

/-- *SAX z, 0x87 (R233). -/
def execSaxZp (z : Byte) (s : State) : Result := storeClass andAX (.zeroPage z) 3 s

/-- *SAX w, 0x8F (R233). -/
def execSaxAbs (w : Addr) (s : State) : Result := storeClass andAX (.absolute w) 4 s

/-- *SAX z,Y, 0x97 (R233). -/
def execSaxZpY (z : Byte) (s : State) : Result := storeClass andAX (.zeroPageY z) 4 s

/-- *SBC #v, 0xEB (R234). -/
def execUSbcImm (v : Byte) (s : State) : Result := immediateClass subFromA v 2 s

/-- *DCP (z,X), 0xC3 (R235). -/
def execDcpIndX (z : Byte) (s : State) : Result := rmwClass decByte thenCompare (.indexedIndirectX z) 8 s

/-- *DCP z, 0xC7 (R235). -/
def execDcpZp (z : Byte) (s : State) : Result := rmwClass decByte thenCompare (.zeroPage z) 5 s

/-- *DCP w, 0xCF (R235). -/
def execDcpAbs (w : Addr) (s : State) : Result := rmwClass decByte thenCompare (.absolute w) 6 s

/-- *DCP (z),Y, 0xD3 (R235). -/
def execDcpIndY (z : Byte) (s : State) : Result := rmwClass decByte thenCompare (.indirectIndexedY z) 8 s

/-- *DCP z,X, 0xD7 (R235). -/
def execDcpZpX (z : Byte) (s : State) : Result := rmwClass decByte thenCompare (.zeroPageX z) 6 s

/-- *DCP w,Y, 0xDB (R235). -/
def execDcpAbsY (w : Addr) (s : State) : Result := rmwClass decByte thenCompare (.absoluteY w) 7 s

/-- *DCP w,X, 0xDF (R235). -/
def execDcpAbsX (w : Addr) (s : State) : Result := rmwClass decByte thenCompare (.absoluteX w) 7 s

/-- *ISB (z,X), 0xE3 (R236). -/
def execIsbIndX (z : Byte) (s : State) : Result := rmwClass incByte thenSub (.indexedIndirectX z) 8 s

/-- *ISB z, 0xE7 (R236). -/
def execIsbZp (z : Byte) (s : State) : Result := rmwClass incByte thenSub (.zeroPage z) 5 s

/-- *ISB w, 0xEF (R236). -/
def execIsbAbs (w : Addr) (s : State) : Result := rmwClass incByte thenSub (.absolute w) 6 s

/-- *ISB (z),Y, 0xF3 (R236). -/
def execIsbIndY (z : Byte) (s : State) : Result := rmwClass incByte thenSub (.indirectIndexedY z) 8 s

/-- *ISB z,X, 0xF7 (R236). -/
def execIsbZpX (z : Byte) (s : State) : Result := rmwClass incByte thenSub (.zeroPageX z) 6 s

/-- *ISB w,Y, 0xFB (R236). -/
def execIsbAbsY (w : Addr) (s : State) : Result := rmwClass incByte thenSub (.absoluteY w) 7 s

/-- *ISB w,X, 0xFF (R236). -/
def execIsbAbsX (w : Addr) (s : State) : Result := rmwClass incByte thenSub (.absoluteX w) 7 s

/-- *SLO (z,X), 0x03 (R237). -/
def execSloIndX (z : Byte) (s : State) : Result := rmwClass shiftLeft thenOr (.indexedIndirectX z) 8 s

/-- *SLO z, 0x07 (R237). -/
def execSloZp (z : Byte) (s : State) : Result := rmwClass shiftLeft thenOr (.zeroPage z) 5 s

/-- *SLO w, 0x0F (R237). -/
def execSloAbs (w : Addr) (s : State) : Result := rmwClass shiftLeft thenOr (.absolute w) 6 s

/-- *SLO (z),Y, 0x13 (R237). -/
def execSloIndY (z : Byte) (s : State) : Result := rmwClass shiftLeft thenOr (.indirectIndexedY z) 8 s

/-- *SLO z,X, 0x17 (R237). -/
def execSloZpX (z : Byte) (s : State) : Result := rmwClass shiftLeft thenOr (.zeroPageX z) 6 s

/-- *SLO w,Y, 0x1B (R237). -/
def execSloAbsY (w : Addr) (s : State) : Result := rmwClass shiftLeft thenOr (.absoluteY w) 7 s

/-- *SLO w,X, 0x1F (R237). -/
def execSloAbsX (w : Addr) (s : State) : Result := rmwClass shiftLeft thenOr (.absoluteX w) 7 s

/-- *RLA (z,X), 0x23 (R238). -/
def execRlaIndX (z : Byte) (s : State) : Result := rmwClass rotateLeft thenAnd (.indexedIndirectX z) 8 s

/-- *RLA z, 0x27 (R238). -/
def execRlaZp (z : Byte) (s : State) : Result := rmwClass rotateLeft thenAnd (.zeroPage z) 5 s

/-- *RLA w, 0x2F (R238). -/
def execRlaAbs (w : Addr) (s : State) : Result := rmwClass rotateLeft thenAnd (.absolute w) 6 s

/-- *RLA (z),Y, 0x33 (R238). -/
def execRlaIndY (z : Byte) (s : State) : Result := rmwClass rotateLeft thenAnd (.indirectIndexedY z) 8 s

/-- *RLA z,X, 0x37 (R238). -/
def execRlaZpX (z : Byte) (s : State) : Result := rmwClass rotateLeft thenAnd (.zeroPageX z) 6 s

/-- *RLA w,Y, 0x3B (R238). -/
def execRlaAbsY (w : Addr) (s : State) : Result := rmwClass rotateLeft thenAnd (.absoluteY w) 7 s

/-- *RLA w,X, 0x3F (R238). -/
def execRlaAbsX (w : Addr) (s : State) : Result := rmwClass rotateLeft thenAnd (.absoluteX w) 7 s

/-- *SRE (z,X), 0x43 (R239). -/
def execSreIndX (z : Byte) (s : State) : Result := rmwClass shiftRight thenEor (.indexedIndirectX z) 8 s

/-- *SRE z, 0x47 (R239). -/
def execSreZp (z : Byte) (s : State) : Result := rmwClass shiftRight thenEor (.zeroPage z) 5 s

/-- *SRE w, 0x4F (R239). -/
def execSreAbs (w : Addr) (s : State) : Result := rmwClass shiftRight thenEor (.absolute w) 6 s

/-- *SRE (z),Y, 0x53 (R239). -/
def execSreIndY (z : Byte) (s : State) : Result := rmwClass shiftRight thenEor (.indirectIndexedY z) 8 s

/-- *SRE z,X, 0x57 (R239). -/
def execSreZpX (z : Byte) (s : State) : Result := rmwClass shiftRight thenEor (.zeroPageX z) 6 s

/-- *SRE w,Y, 0x5B (R239). -/
def execSreAbsY (w : Addr) (s : State) : Result := rmwClass shiftRight thenEor (.absoluteY w) 7 s

/-- *SRE w,X, 0x5F (R239). -/
def execSreAbsX (w : Addr) (s : State) : Result := rmwClass shiftRight thenEor (.absoluteX w) 7 s

/-- *RRA (z,X), 0x63 (R240). -/
def execRraIndX (z : Byte) (s : State) : Result := rmwClass rotateRight thenAdd (.indexedIndirectX z) 8 s

/-- *RRA z, 0x67 (R240). -/
def execRraZp (z : Byte) (s : State) : Result := rmwClass rotateRight thenAdd (.zeroPage z) 5 s

/-- *RRA w, 0x6F (R240). -/
def execRraAbs (w : Addr) (s : State) : Result := rmwClass rotateRight thenAdd (.absolute w) 6 s

/-- *RRA (z),Y, 0x73 (R240). -/
def execRraIndY (z : Byte) (s : State) : Result := rmwClass rotateRight thenAdd (.indirectIndexedY z) 8 s

/-- *RRA z,X, 0x77 (R240). -/
def execRraZpX (z : Byte) (s : State) : Result := rmwClass rotateRight thenAdd (.zeroPageX z) 6 s

/-- *RRA w,Y, 0x7B (R240). -/
def execRraAbsY (w : Addr) (s : State) : Result := rmwClass rotateRight thenAdd (.absoluteY w) 7 s

/-- *RRA w,X, 0x7F (R240). -/
def execRraAbsX (w : Addr) (s : State) : Result := rmwClass rotateRight thenAdd (.absoluteX w) 7 s

end Sys2Proof.Machine
end

