-- ==== Sys2Proof/Machine/Step.lean ====
section
/-! DEFINITION. One step of the core (spec/30_encoding.md R87, spec/60_exceptions.md R261), in three outcomes: the
next state (a halt is one, R270), a fault, a refusal. -/

namespace Sys2Proof.Machine

/-- Execute a fetched instruction and deliver its trace line. `s` is the state the step began in. -/
def runFetched (s : State) (f : Fetched) : Host.Outcome State Fault Refusal :=
  match exec f.instr f.after with
  | .next t => .next (deliver (traceLine s f) t)
  | .fault r => .fault r
  | .refused r => .refused r

/-- The step of a running core whose `watchHit` is cleared: breakpoint, fetch, execute. -/
def stepRunning (s : State) : Host.Outcome State Fault Refusal :=
  if s.breakpoints.contains s.pc then .next (fireBreakpoint s)
  else
    match fetch s with
    | .error f => .fault f
    | .ok f => runFetched s f

/-- One step. A halted core waits for the host and changes nothing (log 7); a faulted one stays faulted (R250). -/
def step (s : State) : Host.Outcome State Fault Refusal :=
  match s.status with
  | .halted _ => .next s
  | .faulted f => .fault f
  | .running => stepRunning { s with watchHit := false }

/-- The state with an instruction stored where the next step fetches (log 13). -/
def State.withFetchWord (s : State) (nbits w : Nat) : State := placeInstruction (tableBytes nbits w) s

end Sys2Proof.Machine
end

