-- ==== Sys2Proof/Machine/Boot.lean ====
section
/-! DEFINITION. The cartridge load (spec/70_reset_and_hazards.md R297) and the boot (R290 to R294). -/

namespace Sys2Proof.Machine

/-- A loaded cartridge: its PRG size and PRG bytes. CHR follows in the file and is not CPU-visible (R297). -/
structure Cartridge where
  bankSize : BankSize
  prg      : Memory
  deriving DecidableEq, Repr

/-- An array's contents from index `k` on, in canonical form. -/
def Memory.ofBytes (k : Nat) (bs : List Byte) : Memory :=
  match bs with
  | [] => []
  | b :: bs =>
    if b = Memory.unlisted then Memory.ofBytes (k + 1) bs else (k, b) :: Memory.ofBytes (k + 1) bs

/-- A header byte; one that a short file lacks counts as 0 (log 16). -/
def headerByte (file : List Byte) (k : Nat) : Byte := file.getD k 0x00

/-- The admitted PRG sizes in 16 KiB units (R59, D21). -/
def bankSizeOf (units : Byte) : Option BankSize :=
  if units = 1 then some .k16 else if units = 2 then some .k32 else none

/-- The cartridge load (R297, D28). -/
def loadCartridge (file : List Byte) : Except Fault Cartridge :=
  if (headerByte file 6).getLsbD 2 then .error .trainerPresent
  else
    match bankSizeOf (headerByte file 4) with
    | none => .error (.badPrgSize (headerByte file 4))
    | some size =>
      if file.length < 16 + size.bytes + 8192 * (headerByte file 5).toNat then
        .error (.badPrgSize (headerByte file 4))
      else .ok ⟨size, Memory.ofBytes 0 ((file.drop 16).take size.bytes)⟩

/-- The reset vector (R68, R292). -/
def resetVector : Addr := 0xFFFC

/-- The word at the reset vector, in PRG-ROM (R292). -/
def resetWord (s : State) : Addr :=
  word (s.prg.read (prgIndex s resetVector)) (s.prg.read (prgIndex s (resetVector + 1)))

/-- The boot (R290) from a loaded cartridge, the parameters, `wramInit` and `bootPc`. -/
def boot (cart : Cartridge) (ps : Params) (wramInit : Memory) (bootPc : BootPc) : State :=
  let s : State :=
    { pc := 0x0000, a := 0x00, x := 0x00, y := 0x00, sp := 0xFD, p := Flags.decode 0x24, cyc := 7,
      wram := wramInit, prg := cart.prg, params := { ps with bankSize := cart.bankSize },
      busHistory := [], ppuChoice := 0, breakpoints := [], watchpoints := [], watchHit := false,
      status := .running, trace := [] }
  match bootPc with
  | .fixed v => jumpTo v s
  | .resetVector => jumpTo (resetWord s) s

end Sys2Proof.Machine
end

