-- ==== Sys2Proof/Machine/RunLoop.lean ====
section
/-! DEFINITION. The run around the step: the status a fault leaves (spec/60_exceptions.md R250, R252) and the golden-log
run loop (R275). -/

namespace Sys2Proof.Machine

/-- The state a fault leaves: the one before the instruction, faulted (R250, R252, log 8). -/
def faultedState (s : State) (f : Fault) : State := { s with status := .faulted f }

/-- The machine's state after a step, whatever its outcome. -/
def tick (s : State) : State :=
  match step s with
  | .next t => t
  | .fault f => faultedState s f
  | .refused _ => s

/-- Compare the lines a step delivered with the next reference lines: the core after the comparison, and the reference
lines left (R275). The model's choices (log 11): lines are compared by field as they are shown, so an unspecified `vv`
(I14) stands for its free byte (log 9) and whether it equals a reference byte is open; a log that has run out compares
nothing. -/
def compareLines (golden delivered : List TraceLine) (t : State) : State × List TraceLine :=
  match golden, delivered with
  | expected :: golden, actual :: _ =>
    if expected.shown = actual.shown then (t, golden)
    else ({ t with status := .halted (.goldenMismatch expected actual) }, golden)
  | golden, _ => (t, golden)

/-- `run(golden_log)` for at most `fuel` steps: it stops at a fault and when the core is not running (R275). -/
def runGolden (fuel : Nat) (golden : List TraceLine) (s : State) : State :=
  match fuel with
  | 0 => s
  | fuel + 1 =>
    if s.status = .running then
      let (t, golden) := compareLines golden ((tick s).trace.drop s.trace.length) (tick s)
      runGolden fuel golden t
    else s

end Sys2Proof.Machine
end

