-- ==== Sys2Proof/WellFormed.lean ====
section
/-! DEFINITION. Which instructions and which parameters a block admits. An instruction's operand is a byte or a
word by its type, so the one check on an instruction is that the block implements its opcode (spec/30_encoding.md
R84); the check on parameters is that every implemented opcode has a table entry and none is listed twice. -/

namespace Sys2Proof

/-- The opcode has an entry in the opcode table (R84). -/
def hasEntry (op : Byte) : Bool := (opcodeForm op).isSome

/-- The block implements the instruction (R84). -/
def Instr.wellFormed (ps : Params) (i : Instr) : Bool := ps.implementedOpcodes.contains i.opcode

/-- `ImplementedOpcodes` is a set of opcodes that have a table entry (R6, R84). -/
def Params.wellFormed (ps : Params) : Bool :=
  ps.implementedOpcodes.all hasEntry && decide ps.implementedOpcodes.Nodup

end Sys2Proof
end

