-- ==== Sys2Proof/Safety.lean ====
section
/-! DEFINITION. What a good state and a safe run are, in the terms the claims use. -/

namespace Sys2Proof.Machine

/-- The number of read events in a bus history. -/
def drawsIn (h : List BusEvent) : Nat := (h.filter (fun e => e.kind == .read)).length

/-- The invariant of every state a run reaches: both arrays in canonical form (R40), Bh is 1 and Bl is 0 (R32, R33),
the debug sets are sets (R42), CYC has not fallen below its seed (R41), and the oracle has been asked once for each
recorded read (R57). -/
structure State.Inv (s : State) : Prop where
  wram        : s.wram.wf 2048 = true
  prg         : s.prg.wf s.params.bankSize.bytes = true
  bh          : s.p.bh = true
  bl          : s.p.bl = false
  breakpoints : AddrSet.wf s.breakpoints = true
  watchpoints : AddrSet.wf s.watchpoints = true
  cyc         : 7 ≤ s.cyc
  draws       : s.ppuChoice = drawsIn s.busHistory

/-- The state reached by `n` steps, if no step faults. -/
def reach (n : Nat) (s : State) : Option State :=
  match n with
  | 0 => some s
  | n + 1 =>
    match step s with
    | .next t => reach n t
    | .fault _ | .refused _ => none

/-- A safe run of `n` steps: none faults and none is refused (R302). -/
def SafeRun (n : Nat) (s : State) : Prop := (reach n s).isSome = true

end Sys2Proof.Machine
end

