-- ==== Sys2Proof/Certificates/Slice0/Obligations.lean ====
section
/-! DEFINITION. The statements for the provers, and before them the few words they are written in. A statement of an
instruction's result is an equation for `exec`, so it says that the instruction completes, what it computes and, since
the whole next state is named, that nothing else changes. -/

namespace Sys2Proof.Claims

open Sys2Proof.Machine

/-! ### Words the statements share -/

/-- An address that some region answers (R50). -/
abbrev Mapped (a : Addr) : Prop := a.toNat < 0x4018 ∨ 0x8000 ≤ a.toNat

/-- An address in 0x4018-0x7FFF (R61). -/
abbrev Unmapped (a : Addr) : Prop := 0x4018 ≤ a.toNat ∧ a.toNat < 0x8000

/-- A write to the address completes (R50, R60). -/
abbrev Writable (s : State) (a : Addr) : Prop :=
  a.toNat < 0x4018 ∨ (0x8000 ≤ a.toNat ∧ s.params.prgWritePolicy = .ignore)

/-- A write to the address is refused as a ROM write (R60). -/
abbrev RomFault (s : State) (a : Addr) : Prop := 0x8000 ≤ a.toNat ∧ s.params.prgWritePolicy = .fault

/-- The state after a bus access that only looks at the watchpoints (R67). -/
def seen (a : Addr) (s : State) : State := { s with watchHit := s.watchHit || decide (a ∈ s.watchpoints) }

/-- N from bit 7, Z from equality with zero (R12). -/
def nz (v : Byte) (f : Flags) : Flags := { f with n := v.getLsbD 7, z := decide (v = 0) }

/-- The carry as a number. -/
def bit (c : Bool) : Nat := if c then 1 else 0

/-- Two addresses on different pages (R116). -/
abbrev OtherPage (a b : Addr) : Prop := a.toNat / 256 ≠ b.toNat / 256

/-- The little-endian word of two bytes, as a number (R51). -/
def wordValue (l h : Byte) : Nat := l.toNat + 256 * h.toNat

/-- The next state an instruction of `len` bytes and `cost` cycles leaves, given everything else it leaves. -/
def ended (s : State) (len cost : Nat) (t : State) : State :=
  { t with pc := s.pc + BitVec.ofNat 16 len, cyc := s.cyc + cost }

/-! ### Instruction forms: opcode, constructor, cost and effect -/

/-- A one-byte form: it has the opcode, and it completes in every state. -/
def ImpliedForm (op : Byte) (i : Instr) (base : Nat) (eff : State → State) : Prop :=
  i.opcode = op ∧ ∀ s, exec i s = .next (ended s 1 base (eff s))

/-- An immediate form: it completes for every operand in every state. -/
def ImmediateForm (op : Byte) (mk : Byte → Instr) (eff : Byte → State → State) : Prop :=
  ∀ v s, (mk v).opcode = op ∧ exec (mk v) s = .next (ended s 2 2 (eff v s))

/-- A read-class memory form (R114, R117): where the effective address is mapped it reads there once, after the pointer
reads, and completes; in 0x4018-0x7FFF it faults. `eligible` says whether a page cross costs a cycle. -/
def ReadForm {β : Type} (op : Byte) (mk : β → Instr) (mode : β → MemMode) (len base : Nat) (eligible : Bool)
    (eff : Byte → State → State) : Prop :=
  ∀ (b : β) (s : State), (mk b).opcode = op ∧
    (Mapped (effAddress (mode b) s) →
      ∃ v t, busRead (effAddress (mode b) s) (afterPointer (mode b) s) = .ok (v, t) ∧
        exec (mk b) s = .next (ended s len
          (base + if eligible = true ∧ OtherPage (baseAddress (mode b) s) (effAddress (mode b) s) then 1 else 0)
          (eff v t))) ∧
    (Unmapped (effAddress (mode b) s) → exec (mk b) s = .fault (.unmappedAccess (effAddress (mode b) s) s.pc))

/-- A store form (R113, R66): one write at the effective address, no read there, no penalty. -/
def StoreForm {β : Type} (op : Byte) (mk : β → Instr) (mode : β → MemMode) (len base : Nat) (value : State → Byte) :
    Prop :=
  ∀ (b : β) (s : State), (mk b).opcode = op ∧
    (Writable s (effAddress (mode b) s) →
      ∃ t, busWrite (effAddress (mode b) s) (value s) (afterPointer (mode b) s) = .ok t ∧
        exec (mk b) s = .next (ended s len base t)) ∧
    (RomFault s (effAddress (mode b) s) → exec (mk b) s = .fault (.romWrite (effAddress (mode b) s) s.pc)) ∧
    (Unmapped (effAddress (mode b) s) → exec (mk b) s = .fault (.unmappedAccess (effAddress (mode b) s) s.pc))

/-- A read-modify-write form (R114, R230): one read and one write of `f M C` at the same address, then the effect on
registers and flags of the byte written and the carry out. -/
def RmwForm {β : Type} (op : Byte) (mk : β → Instr) (mode : β → MemMode) (len base : Nat)
    (f : Byte → Bool → Byte × Bool) (eff : Byte → Bool → State → State) : Prop :=
  ∀ (b : β) (s : State), (mk b).opcode = op ∧
    (Writable s (effAddress (mode b) s) →
      ∃ v t u, busRead (effAddress (mode b) s) (afterPointer (mode b) s) = .ok (v, t) ∧
        busWrite (effAddress (mode b) s) (f v s.p.c).1 t = .ok u ∧
        exec (mk b) s = .next (ended s len base (eff (f v s.p.c).1 (f v s.p.c).2 u))) ∧
    (RomFault s (effAddress (mode b) s) → exec (mk b) s = .fault (.romWrite (effAddress (mode b) s) s.pc)) ∧
    (Unmapped (effAddress (mode b) s) → exec (mk b) s = .fault (.unmappedAccess (effAddress (mode b) s) s.pc))

/-- A branch form (R206): taken or not, it completes in every state. -/
def BranchForm (op : Byte) (mk : Byte → Instr) (cond : Flags → Prop) : Prop :=
  ∀ (off : Byte) (s : State), (mk off).opcode = op ∧
    let next := s.pc + 2
    let target := BitVec.ofInt 16 (next.toNat + off.toInt)
    (cond s.p → exec (mk off) s =
      .next { s with pc := target, cyc := s.cyc + (3 + if OtherPage next target then 1 else 0) }) ∧
    (¬ cond s.p → exec (mk off) s = .next { s with pc := next, cyc := s.cyc + 2 })

/-! ### The operations of the rules, written from the rules -/

/-- ADC's effect (R150), with the carry-in of `s`. -/
def adcEff (v : Byte) (s : State) : State :=
  let sum := s.a.toNat + v.toNat + bit s.p.c
  let r := BitVec.ofNat 8 sum
  { s with a := r, p := nz r { s.p with c := decide (0xFF < sum), v := decide (~~~(s.a ^^^ v) &&& (s.a ^^^ r) &&& 0x80 ≠ 0) } }

/-- SBC's effect (R151), in the second form of the rule: a subtraction with borrow. -/
def sbcEff (m : Byte) (s : State) : State :=
  let r := BitVec.ofInt 8 (s.a.toNat - m.toNat - (1 - bit s.p.c : Int))
  { s with a := r, p := nz r { s.p with c := decide (m.toNat + (1 - bit s.p.c) ≤ s.a.toNat),
                                        v := decide ((s.a ^^^ m) &&& (s.a ^^^ r) &&& 0x80 ≠ 0) } }

/-- `Compare(r, v)` on the flags (R156). -/
def compareFlags (r v : Byte) (f : Flags) : Flags :=
  { f with c := decide (v.toNat ≤ r.toNat), z := decide (r = v), n := (r - v).getLsbD 7 }

/-- The four shifts of a byte and the carry out (R180 to R183), by arithmetic. -/
def aslFun (v : Byte) (_c : Bool) : Byte × Bool := (BitVec.ofNat 8 (2 * v.toNat), decide (0x80 ≤ v.toNat))
def lsrFun (v : Byte) (_c : Bool) : Byte × Bool := (BitVec.ofNat 8 (v.toNat / 2), decide (v.toNat % 2 = 1))
def rolFun (v : Byte) (c : Bool) : Byte × Bool := (BitVec.ofNat 8 (2 * v.toNat + bit c), decide (0x80 ≤ v.toNat))
def rorFun (v : Byte) (c : Bool) : Byte × Bool :=
  (BitVec.ofNat 8 (v.toNat / 2 + 128 * bit c), decide (v.toNat % 2 = 1))

/-- C from the carry out, N and Z from the result. -/
def shiftFlags (r : Byte) (c : Bool) (s : State) : State := { s with p := nz r { s.p with c := c } }

/-- `A <- v`, C as given, N and Z from A. -/
def loadAC (v : Byte) (c : Bool) (s : State) : State := { s with a := v, p := nz v { s.p with c := c } }

/-- The address SP names (R24): page 1, so a number from 0x100 to 0x1FF. -/
def stackAt (sp : Byte) : Addr := BitVec.ofNat 16 (0x100 + sp.toNat)

/-- The WRAM byte at the address SP names. -/
def stackByte (s : State) (sp : Byte) : Byte := s.wram.read (0x100 + sp.toNat)

/-- One push (R62). -/
def pushed (v : Byte) (s : State) : State :=
  { seen (stackAt s.sp) s with wram := s.wram.write (0x100 + s.sp.toNat) v, sp := s.sp - 1 }

/-- SP and the watchpoint state after one pull (R63). -/
def pulled (s : State) : State := { seen (stackAt (s.sp + 1)) s with sp := s.sp + 1 }

/-- The status byte as R27 lays it out. -/
def statusByte (f : Flags) : Byte :=
  BitVec.ofNat 8 (128 * bit f.n + 64 * bit f.v + 32 * bit f.bh + 16 * bit f.bl + 8 * bit f.d + 4 * bit f.i + 2 * bit f.z + bit f.c)

/-- `RestoreP(v)` (R29). -/
def restored (v : Byte) (f : Flags) : Flags :=
  { n := v.getLsbD 7, v := v.getLsbD 6, bh := f.bh, bl := f.bl, d := v.getLsbD 3, i := v.getLsbD 2, z := v.getLsbD 1,
    c := v.getLsbD 0 }

/-! ### Which instruction writes what (R21 to R37) -/

def writesA (i : Instr) : Prop :=
  i.mnemonic ∈ [.lda, .pla, .txa, .tya, .adc, .sbc, .and, .ora, .eor, .lax, .isb, .slo, .rla, .sre, .rra, .uSbc] ∨
    (i.mnemonic ∈ [.asl, .lsr, .rol, .ror] ∧ i.mode = .accumulator)

def writesX (i : Instr) : Prop := i.mnemonic ∈ [.ldx, .tax, .tsx, .inx, .dex, .lax]

def writesY (i : Instr) : Prop := i.mnemonic ∈ [.ldy, .tay, .iny, .dey]

def writesSP (i : Instr) : Prop := i.mnemonic ∈ [.txs, .pha, .php, .pla, .plp, .jsr, .rts, .rti, .brk]

def usesSetNZ (m : Mnemonic) : Prop :=
  m ∈ [.lda, .ldx, .ldy, .tax, .tay, .txa, .tya, .tsx, .pla, .adc, .sbc, .and, .ora, .eor, .cmp, .cpx, .cpy, .inc, .dec,
       .inx, .iny, .dex, .dey, .asl, .lsr, .rol, .ror] ∨ m ∈ [.lax, .dcp, .isb, .slo, .rla, .sre, .rra, .uSbc]

def writesNZ (i : Instr) : Prop := usesSetNZ i.mnemonic ∨ i.mnemonic ∈ [.bit, .plp, .rti]

def writesV (i : Instr) : Prop := i.mnemonic ∈ [.adc, .sbc, .uSbc, .isb, .rra, .bit, .clv, .plp, .rti]

def writesD (i : Instr) : Prop := i.mnemonic ∈ [.cld, .sed, .plp, .rti]

def writesI (i : Instr) : Prop := i.mnemonic ∈ [.cli, .sei, .brk, .plp, .rti]

def writesC (i : Instr) : Prop :=
  i.mnemonic ∈ [.adc, .sbc, .cmp, .cpx, .cpy, .asl, .lsr, .rol, .ror, .clc, .sec, .plp, .rti] ∨
    i.mnemonic ∈ [.dcp, .isb, .slo, .rla, .sre, .rra, .uSbc]

/-- The instructions that set PC explicitly (R88). -/
def setsPC (i : Instr) : Prop := i.mnemonic ∈ [.jmp, .jsr, .rts, .rti, .brk] ∨ i.mode = .relative

/-- The addresses an instruction stores a byte to: EA for stores and RMW instructions, the stack bytes for pushes. -/
def storesTo (i : Instr) (s : State) : List Addr :=
  if i.mnemonic ∈ [.sta, .stx, .sty, .sax] ∨ i.mnemonic ∈ [.inc, .dec, .asl, .lsr, .rol, .ror] ∨
      i.mnemonic ∈ [.dcp, .isb, .slo, .rla, .sre, .rra] then
    match i.operand with
    | .memory m => [effAddress m s]
    | _ => []
  else if i.mnemonic ∈ [.pha, .php] then [stackAt s.sp]
  else if i.mnemonic = .jsr then [stackAt s.sp, stackAt (s.sp - 1)]
  else if i.mnemonic = .brk then [stackAt s.sp, stackAt (s.sp - 1), stackAt (s.sp - 2)]
  else []

/-- Two addresses of one storage location (R69): the same address, or mirrors of one WRAM byte. -/
def SameStorage (a b : Addr) : Prop :=
  a = b ∨ (a.toNat < 0x2000 ∧ b.toNat < 0x2000 ∧ a.toNat % 2048 = b.toNat % 2048)

/-- Whether a branch is taken (R207 to R214); other instructions do not branch. -/
def branchTaken (m : Mnemonic) (f : Flags) : Bool :=
  match m with
  | .bcc => !f.c | .bcs => f.c | .beq => f.z | .bne => !f.z
  | .bmi => f.n | .bpl => !f.n | .bvc => !f.v | .bvs => f.v
  | _ => false

/-- The page-cross and branch penalties of R117 and R118, read off the table row. -/
def penalty (i : Instr) (s : State) : Nat :=
  match i.operand with
  | .memory m => if i.row.pageCross = true ∧ OtherPage (baseAddress m s) (effAddress m s) then 1 else 0
  | .relative off =>
    if branchTaken i.mnemonic s.p = true then 1 + (if OtherPage (s.pc + 2) (branchTarget off s) then 1 else 0) else 0
  | _ => 0

/-! ### Trace lines -/

/-- The read-class instructions (R114): their operand is read before anything is written. -/
def readsFirst (i : Instr) : Prop :=
  i.mnemonic ∈ [.lda, .ldx, .ldy, .adc, .sbc, .and, .ora, .eor, .bit, .cmp, .cpx, .cpy, .uNop, .lax, .uSbc]

/-- The operand part of a memory mode with the byte `vv`: the mode's addresses in the order of the table of R277. -/
def memoryText (m : MemMode) (vv : Option Byte) (s : State) : TraceOperand :=
  match m with
  | .zeroPage z => .zeroPage z vv
  | .zeroPageX z => .zeroPageX z (BitVec.ofNat 8 (z.toNat + s.x.toNat)) vv
  | .zeroPageY z => .zeroPageY z (BitVec.ofNat 8 (z.toNat + s.y.toNat)) vv
  | .absolute w => .absolute w vv
  | .absoluteX w => .absoluteX w (BitVec.ofNat 16 (w.toNat + s.x.toNat)) vv
  | .absoluteY w => .absoluteY w (BitVec.ofNat 16 (w.toNat + s.y.toNat)) vv
  | .indexedIndirectX z => .indexedIndirectX z (BitVec.ofNat 8 (z.toNat + s.x.toNat)) (effAddress m s) vv
  | .indirectIndexedY z => .indirectIndexedY z (baseAddress m s) (effAddress m s) vv

/-- The official instructions (R89). -/
def official (i : Instr) : Prop := i.mnemonic ∉ [.uNop, .lax, .sax, .uSbc, .dcp, .isb, .slo, .rla, .sre, .rra]

/-! ### Steps -/

/-- `n` bus reads at rising addresses (R52): the bytes in that order, and the state after. -/
def busReads (n : Nat) (a : Addr) (s : State) : Except Fault (List Byte × State) :=
  match n with
  | 0 => .ok ([], s)
  | n + 1 =>
    match busRead a s with
    | .error f => .error f
    | .ok (b, s) =>
      match busReads n (a + 1) s with
      | .error f => .error f
      | .ok (bs, s) => .ok (b :: bs, s)

/-- A state whose next step runs an instruction: running, and no breakpoint at PC. -/
structure Ready (s : State) : Prop where
  running : s.status = .running
  noBreak : s.pc ∉ s.breakpoints

/-- The same outcome up to a change of the state. -/
def onNext (g : State → State) : Result → Result
  | .next t => .next (g t)
  | .fault f => .fault f
  | .refused r => .refused r

end Sys2Proof.Claims

open Sys2Proof Sys2Proof.Machine Sys2Proof.Claims

/-- Decoding an encoded instruction gives it back. (30_encoding.md section 1 (R80, R82), 30_encoding.md section 3 (opcode table)) -/
def Obligations.DecodeEncodeRoundTrip : Prop :=
  ∀ (i : Instr) (rest : List Byte), decode (encode i ++ rest) = .ok (i, rest)

/-- Encoding a decoded instruction gives its bytes back. (30_encoding.md section 1 (R80, R82, R83), 30_encoding.md section 3 (opcode table)) -/
def Obligations.EncodeDecodeRoundTrip : Prop :=
  ∀ (bs rest : List Byte) (i : Instr), decode bs = .ok (i, rest) → bs = encode i ++ rest

/-- The length is fixed per opcode and is a function of the mode. (R80, R83) -/
def Obligations.LengthIsAFunctionOfTheMode : Prop :=
  ∀ i : Instr,
    (encode i).head? = some i.opcode ∧ instrLength i.opcode = some (encode i).length ∧
    (i.mode ∈ [.implied, .accumulator] → (encode i).length = 1) ∧
    (i.mode ∈ [.immediate, .zeroPage, .zeroPageX, .zeroPageY, .indexedIndirectX, .indirectIndexedY, .relative] →
      (encode i).length = 2) ∧
    (i.mode ∈ [.absolute, .absoluteX, .absoluteY, .indirect] → (encode i).length = 3)

/-- Words written out in the spec decode to the instructions they stand for. (30_encoding.md section 3 (opcode table), 95_test_vectors.md L1 to L3) -/
def Obligations.SpecWordsDecode : Prop :=
  decode [0xA9, 0x10] = .ok (.ldaImm 0x10, []) ∧ decode [0xBD, 0xFF, 0x00] = .ok (.ldaAbsX 0x00FF, []) ∧
  decode [0x8D, 0x00, 0x04] = .ok (.staAbs 0x0400, []) ∧ decode [0xE9, 0x01] = .ok (.sbcImm 0x01, []) ∧
  decode [0x66, 0x10] = .ok (.rorZp 0x10, []) ∧ decode [0x28] = .ok (.plp, []) ∧
  decode [0x20, 0x2D, 0xC7] = .ok (.jsr 0xC72D, []) ∧ decode [0x6C, 0xFF, 0x02] = .ok (.jmpInd 0x02FF, []) ∧
  decode [0xD0, 0xFB] = .ok (.bne 0xFB, []) ∧ decode [0xB8] = .ok (.clv, []) ∧
  decode [0xC7, 0x10] = .ok (.dcpZp 0x10, []) ∧ decode [0x1C, 0xFF, 0x00] = .ok (.uNopAbsX1C 0x00FF, [])

/-- The 29 listed opcode values have no table entry, the other 227 have one and are the default set; executing a fatal one faults. (R84) -/
def Obligations.ExactlyTwentyNineOpcodesAreFatal : Prop :=
  (∀ op : Byte, instrLength op = none ↔
    op ∈ [0x02, 0x0B, 0x12, 0x22, 0x2B, 0x32, 0x42, 0x4B, 0x52, 0x62, 0x6B, 0x72, 0x82, 0x89, 0x8B, 0x92, 0x93, 0x9B, 0x9C,
          0x9E, 0x9F, 0xAB, 0xB2, 0xBB, 0xC2, 0xCB, 0xD2, 0xE2, 0xF2]) ∧
  (∀ op : Byte, op ∈ Params.default.implementedOpcodes ↔ instrLength op ≠ none) ∧
  Params.default.implementedOpcodes.length = 227 ∧ Params.default.implementedOpcodes.Nodup ∧
  (∀ (s t : State) (op : Byte), Ready s → busRead s.pc { s with watchHit := false } = .ok (op, t) →
    (op ∉ s.params.implementedOpcodes ∨ instrLength op = none) → step s = .fault (.unimplementedOpcode op s.pc))

/-- Every piece of state has its boot value, PC from bootPc or from the reset vector. (R47, R291, R292, R293) -/
def Obligations.BootValues : Prop :=
  ∀ (cart : Cartridge) (ps : Params) (w : Memory) (b : BootPc),
    let s := boot cart ps w b
    s.a = 0x00 ∧ s.x = 0x00 ∧ s.y = 0x00 ∧ s.sp = 0xFD ∧ s.p.encode = 0x24 ∧
    s.p = ⟨false, false, true, false, false, true, false, false⟩ ∧ s.cyc = 7 ∧
    s.wram = w ∧ s.prg = cart.prg ∧ s.params = { ps with bankSize := cart.bankSize } ∧
    s.breakpoints = [] ∧ s.watchpoints = [] ∧ s.watchHit = false ∧ s.status = .running ∧
    (∀ v, b = .fixed v → s.pc = v) ∧
    (b = .resetVector → ∃ l h t u, busRead 0xFFFC s = .ok (l, t) ∧ busRead 0xFFFD t = .ok (h, u) ∧
      s.pc = BitVec.ofNat 16 (wordValue l h))

/-- State.reset is the boot with empty memories, and every boot leaves the PPU history and the trace empty (the model's choices, log 1, 2, 3, 5, 10). (70_reset_and_hazards.md section 1 (boot), notes/assumptions/1.md, 2.md, 3.md: the empty memories are the model's choice, notes/assumptions/5.md, 10.md: the records that a boot leaves empty are the model's choice) -/
def Obligations.ResetIsTheBootOfAnEmptyCartridge : Prop :=
  State.reset = boot ⟨.k16, []⟩ Params.default [] .resetVector ∧
  ∀ (cart : Cartridge) (ps : Params) (w : Memory) (b : BootPc), (boot cart ps w b).busHistory = [] ∧ (boot cart ps w b).trace = []

/-- The iNES load refuses a trainer, a bad PRG size and a short file (a missing header byte counts as 0: log 16), else yields the PRG bytes of the file. (70_reset_and_hazards.md section 3 (cartridge load), 60_exceptions.md section 1 (TrainerPresent, BadPrgSize), notes/assumptions/16.md: that a missing header byte counts as 0, and that the trainer flag is checked before the size, are the model's choices) -/
def Obligations.CartridgeLoadRefusesOrYieldsThePrgBytes : Prop :=
  ∀ file : List Byte,
    let units := (file.getD 4 0).toNat
    let chr := (file.getD 5 0).toNat
    let trainer := (file.getD 6 0).getLsbD 2
    (trainer = true → loadCartridge file = .error .trainerPresent) ∧
    (trainer = false → ¬ (units = 1 ∨ units = 2) → loadCartridge file = .error (.badPrgSize (file.getD 4 0))) ∧
    (trainer = false → (units = 1 ∨ units = 2) → file.length < 16 + 16384 * units + 8192 * chr →
      loadCartridge file = .error (.badPrgSize (file.getD 4 0))) ∧
    (trainer = false → (units = 1 ∨ units = 2) → 16 + 16384 * units + 8192 * chr ≤ file.length →
      ∃ cart, loadCartridge file = .ok cart ∧ cart.bankSize.bytes = 16384 * units ∧
        cart.prg.wf cart.bankSize.bytes = true ∧
        ∀ k, k < 16384 * units → cart.prg.read k = file.getD (16 + k) 0)

/-- The status byte has the layout N V Bh Bl D I Z C, encode and decode are inverse, RestoreP keeps Bh and Bl. (R27, R28, R29) -/
def Obligations.StatusByteLayoutAndRoundTrip : Prop :=
  (∀ f : Flags, f.encode = statusByte f ∧ Flags.decode f.encode = f) ∧
  (∀ v : Byte, (Flags.decode v).encode = v) ∧
  (∀ (f : Flags) (v : Byte), f.restore v = restored v f)

/-- The direct and indexed modes compute their effective address, zero-page sums modulo 256 and absolute sums modulo 65536. (R103, R104, R105, R106, R107, R108, R116) -/
def Obligations.DirectAddressingModes : Prop :=
  (∀ (s : State) (z : Byte) (w : Addr),
    effAddress (.zeroPage z) s = BitVec.ofNat 16 z.toNat ∧
    effAddress (.zeroPageX z) s = BitVec.ofNat 16 ((z.toNat + s.x.toNat) % 256) ∧
    effAddress (.zeroPageY z) s = BitVec.ofNat 16 ((z.toNat + s.y.toNat) % 256) ∧
    effAddress (.absolute w) s = w ∧
    effAddress (.absoluteX w) s = BitVec.ofNat 16 ((w.toNat + s.x.toNat) % 65536) ∧ baseAddress (.absoluteX w) s = w ∧
    effAddress (.absoluteY w) s = BitVec.ofNat 16 ((w.toNat + s.y.toNat) % 65536) ∧ baseAddress (.absoluteY w) s = w ∧
    afterPointer (.zeroPage z) s = s ∧ afterPointer (.zeroPageX z) s = s ∧ afterPointer (.zeroPageY z) s = s ∧
    afterPointer (.absolute w) s = s ∧ afterPointer (.absoluteX w) s = s ∧ afterPointer (.absoluteY w) s = s) ∧
  (∀ base final : Addr, crossed base final = true ↔ OtherPage base final)

/-- The two zero-page pointer modes read low byte then high byte inside page 0, and only (zp),Y adds with a 16-bit carry. (R110, R111) -/
def Obligations.PointerAddressingModes : Prop :=
  ∀ (s : State) (z : Byte),
    (∃ l h t u, busRead (BitVec.ofNat 16 ((z.toNat + s.x.toNat) % 256)) s = .ok (l, t) ∧
      busRead (BitVec.ofNat 16 ((z.toNat + s.x.toNat + 1) % 256)) t = .ok (h, u) ∧
      effAddress (.indexedIndirectX z) s = BitVec.ofNat 16 (wordValue l h) ∧
      baseAddress (.indexedIndirectX z) s = effAddress (.indexedIndirectX z) s ∧
      afterPointer (.indexedIndirectX z) s = u) ∧
    (∃ l h t u, busRead (BitVec.ofNat 16 z.toNat) s = .ok (l, t) ∧
      busRead (BitVec.ofNat 16 ((z.toNat + 1) % 256)) t = .ok (h, u) ∧
      baseAddress (.indirectIndexedY z) s = BitVec.ofNat 16 (wordValue l h) ∧
      effAddress (.indirectIndexedY z) s = BitVec.ofNat 16 ((wordValue l h + s.y.toNat) % 65536) ∧
      afterPointer (.indirectIndexedY z) s = u)

/-- Reads are answered by their region; PPU and stub writes change no core state; 0x4018-0x7FFF is fatal (the draw counter is the model's choice, log 5). (20_memory.md rules R50, R55, R56, R57, R58, R59, R61 and R67, notes/assumptions/5.md: the draw counter the oracle is given is the model's choice) -/
def Obligations.BusReadsByRegion : Prop :=
  (∀ (s : State) (a : Addr),
    (a.toNat < 0x2000 → busRead a s = .ok (s.wram.read (a.toNat % 2048), seen a s)) ∧
    (0x2000 ≤ a.toNat ∧ a.toNat < 0x4000 →
      let r := BitVec.ofNat 3 (a.toNat % 8)
      let v := Config.ppuRead r s.busHistory s.ppuChoice
      busRead a s = .ok (v, { seen a s with busHistory := s.busHistory ++ [⟨.read, r, v⟩], ppuChoice := s.ppuChoice + 1 })) ∧
    (0x4000 ≤ a.toNat ∧ a.toNat < 0x4018 → busRead a s = .ok (0x00, seen a s)) ∧
    (Unmapped a → busRead a s = .error (.unmappedAccess a s.pc)) ∧
    (0x8000 ≤ a.toNat → busRead a s = .ok (s.prg.read (a.toNat % s.params.bankSize.bytes), seen a s))) ∧
  (∀ (s : State) (a : Addr) (v : Byte),
    (0x2000 ≤ a.toNat ∧ a.toNat < 0x4000 →
      busWrite a v s = .ok { seen a s with busHistory := s.busHistory ++ [⟨.write, BitVec.ofNat 3 (a.toNat % 8), v⟩] }) ∧
    (0x4000 ≤ a.toNat ∧ a.toNat < 0x4018 → busWrite a v s = .ok (seen a s)) ∧
    (Unmapped a → busWrite a v s = .error (.unmappedAccess a s.pc))) ∧
  BankSize.k16.bytes = 16384 ∧ BankSize.k32.bytes = 32768

/-- A write to 0x8000-0xFFFF does nothing under ignore and faults under fault. (R60) -/
def Obligations.RomWritesFollowThePolicy : Prop :=
  ∀ (s : State) (a : Addr) (v : Byte), 0x8000 ≤ a.toNat →
    (s.params.prgWritePolicy = .ignore → busWrite a v s = .ok (seen a s)) ∧
    (s.params.prgWritePolicy = .fault → busWrite a v s = .error (.romWrite a s.pc))

/-- A write to WRAM is read back at every mirror and at no other byte. (R55) -/
def Obligations.WramMirrorsAndReadAfterWrite : Prop :=
  ∀ (s : State) (a : Addr) (v : Byte), a.toNat < 0x2000 →
    ∃ t, busWrite a v s = .ok t ∧ t = { seen a s with wram := t.wram } ∧
      ∀ b : Addr, b.toNat < 0x2000 →
        busRead b t = .ok (if a.toNat % 2048 = b.toNat % 2048 then v else s.wram.read (b.toNat % 2048), seen b t)

/-- Push writes at 0x0100 | SP then decrements, pull increments then reads, SP wraps, neither can fault. (R62, R63, R64) -/
def Obligations.StackPrimitives : Prop :=
  ∀ (s : State) (v : Byte),
    (∃ t, busWrite (stackAt s.sp) v s = .ok t ∧ push v s = { t with sp := BitVec.ofNat 8 (s.sp.toNat + 255) }) ∧
    (∃ b t, busRead (stackAt (s.sp + 1)) { s with sp := BitVec.ofNat 8 (s.sp.toNat + 1) } = .ok (b, t) ∧ pull s = (b, t)) ∧
    push v s = pushed v s ∧ pull s = (stackByte s (s.sp + 1), pulled s) ∧
    (s.sp = 0x00 → stackAt s.sp = 0x0100 ∧ (push v s).sp = 0xFF) ∧
    (s.sp = 0xFF → stackAt (s.sp + 1) = 0x0100 ∧ (pull s).2.sp = 0x00)

/-- A pull right after a push gives the pushed byte and restores SP, at every SP. (20_memory.md section 4 (the stack), 10_state.md section 1 (SP)) -/
def Obligations.PullGivesBackWhatWasPushed : Prop :=
  ∀ (s : State) (v : Byte), (pull (push v s)).1 = v ∧ (pull (push v s)).2.sp = s.sp ∧
    ∀ a : Addr, ¬ SameStorage a (stackAt s.sp) → peek a (pull (push v s)).2 = peek a s

/-- LDA, LDX, LDY and *LAX in all their forms: result, flags, cost, faults. (R130, R131, R132, R232) -/
def Obligations.LoadsEveryForm : Prop :=
  ReadForm 0xA1 .ldaIndX .indexedIndirectX 2 6 false (fun v t => { t with a := v, p := nz v t.p }) ∧
  ReadForm 0xA5 .ldaZp .zeroPage 2 3 false (fun v t => { t with a := v, p := nz v t.p }) ∧
  ImmediateForm 0xA9 .ldaImm (fun v t => { t with a := v, p := nz v t.p }) ∧
  ReadForm 0xAD .ldaAbs .absolute 3 4 false (fun v t => { t with a := v, p := nz v t.p }) ∧
  ReadForm 0xB1 .ldaIndY .indirectIndexedY 2 5 true (fun v t => { t with a := v, p := nz v t.p }) ∧
  ReadForm 0xB5 .ldaZpX .zeroPageX 2 4 false (fun v t => { t with a := v, p := nz v t.p }) ∧
  ReadForm 0xB9 .ldaAbsY .absoluteY 3 4 true (fun v t => { t with a := v, p := nz v t.p }) ∧
  ReadForm 0xBD .ldaAbsX .absoluteX 3 4 true (fun v t => { t with a := v, p := nz v t.p }) ∧
  ImmediateForm 0xA2 .ldxImm (fun v t => { t with x := v, p := nz v t.p }) ∧
  ReadForm 0xA6 .ldxZp .zeroPage 2 3 false (fun v t => { t with x := v, p := nz v t.p }) ∧
  ReadForm 0xAE .ldxAbs .absolute 3 4 false (fun v t => { t with x := v, p := nz v t.p }) ∧
  ReadForm 0xB6 .ldxZpY .zeroPageY 2 4 false (fun v t => { t with x := v, p := nz v t.p }) ∧
  ReadForm 0xBE .ldxAbsY .absoluteY 3 4 true (fun v t => { t with x := v, p := nz v t.p }) ∧
  ImmediateForm 0xA0 .ldyImm (fun v t => { t with y := v, p := nz v t.p }) ∧
  ReadForm 0xA4 .ldyZp .zeroPage 2 3 false (fun v t => { t with y := v, p := nz v t.p }) ∧
  ReadForm 0xAC .ldyAbs .absolute 3 4 false (fun v t => { t with y := v, p := nz v t.p }) ∧
  ReadForm 0xB4 .ldyZpX .zeroPageX 2 4 false (fun v t => { t with y := v, p := nz v t.p }) ∧
  ReadForm 0xBC .ldyAbsX .absoluteX 3 4 true (fun v t => { t with y := v, p := nz v t.p }) ∧
  ReadForm 0xA3 .laxIndX .indexedIndirectX 2 6 false (fun v t => { t with a := v, x := v, p := nz v t.p }) ∧
  ReadForm 0xA7 .laxZp .zeroPage 2 3 false (fun v t => { t with a := v, x := v, p := nz v t.p }) ∧
  ReadForm 0xAF .laxAbs .absolute 3 4 false (fun v t => { t with a := v, x := v, p := nz v t.p }) ∧
  ReadForm 0xB3 .laxIndY .indirectIndexedY 2 5 true (fun v t => { t with a := v, x := v, p := nz v t.p }) ∧
  ReadForm 0xB7 .laxZpY .zeroPageY 2 4 false (fun v t => { t with a := v, x := v, p := nz v t.p }) ∧
  ReadForm 0xBF .laxAbsY .absoluteY 3 4 true (fun v t => { t with a := v, x := v, p := nz v t.p })

/-- STA, STX, STY and *SAX in all their forms: the byte stored, the cost, the faults. (R133, R134, R135, R233) -/
def Obligations.StoresEveryForm : Prop :=
  StoreForm 0x81 .staIndX .indexedIndirectX 2 6 (fun s => s.a) ∧
  StoreForm 0x85 .staZp .zeroPage 2 3 (fun s => s.a) ∧
  StoreForm 0x8D .staAbs .absolute 3 4 (fun s => s.a) ∧
  StoreForm 0x91 .staIndY .indirectIndexedY 2 6 (fun s => s.a) ∧
  StoreForm 0x95 .staZpX .zeroPageX 2 4 (fun s => s.a) ∧
  StoreForm 0x99 .staAbsY .absoluteY 3 5 (fun s => s.a) ∧
  StoreForm 0x9D .staAbsX .absoluteX 3 5 (fun s => s.a) ∧
  StoreForm 0x86 .stxZp .zeroPage 2 3 (fun s => s.x) ∧
  StoreForm 0x8E .stxAbs .absolute 3 4 (fun s => s.x) ∧
  StoreForm 0x96 .stxZpY .zeroPageY 2 4 (fun s => s.x) ∧
  StoreForm 0x84 .styZp .zeroPage 2 3 (fun s => s.y) ∧
  StoreForm 0x8C .styAbs .absolute 3 4 (fun s => s.y) ∧
  StoreForm 0x94 .styZpX .zeroPageX 2 4 (fun s => s.y) ∧
  StoreForm 0x83 .saxIndX .indexedIndirectX 2 6 (fun s => s.a &&& s.x) ∧
  StoreForm 0x87 .saxZp .zeroPage 2 3 (fun s => s.a &&& s.x) ∧
  StoreForm 0x8F .saxAbs .absolute 3 4 (fun s => s.a &&& s.x) ∧
  StoreForm 0x97 .saxZpY .zeroPageY 2 4 (fun s => s.a &&& s.x)

/-- TAX, TAY, TXA, TYA, TSX and TXS: destination, flags, cost. (R136, R137, R138, R139, R140, R141) -/
def Obligations.TransfersEveryForm : Prop :=
  ImpliedForm 0xAA .tax 2 (fun s => { s with x := s.a, p := nz s.a s.p }) ∧
  ImpliedForm 0xA8 .tay 2 (fun s => { s with y := s.a, p := nz s.a s.p }) ∧
  ImpliedForm 0x8A .txa 2 (fun s => { s with a := s.x, p := nz s.x s.p }) ∧
  ImpliedForm 0x98 .tya 2 (fun s => { s with a := s.y, p := nz s.y s.p }) ∧
  ImpliedForm 0xBA .tsx 2 (fun s => { s with x := s.sp, p := nz s.sp s.p }) ∧
  ImpliedForm 0x9A .txs 2 (fun s => { s with sp := s.x })

/-- ADC in all its forms: the 9-bit sum, its carry, the signed-overflow formula, cost and faults. (R150) -/
def Obligations.AdcEveryForm : Prop :=
  ReadForm 0x61 .adcIndX .indexedIndirectX 2 6 false adcEff ∧
  ReadForm 0x65 .adcZp .zeroPage 2 3 false adcEff ∧
  ImmediateForm 0x69 .adcImm adcEff ∧
  ReadForm 0x6D .adcAbs .absolute 3 4 false adcEff ∧
  ReadForm 0x71 .adcIndY .indirectIndexedY 2 5 true adcEff ∧
  ReadForm 0x75 .adcZpX .zeroPageX 2 4 false adcEff ∧
  ReadForm 0x79 .adcAbsY .absoluteY 3 4 true adcEff ∧
  ReadForm 0x7D .adcAbsX .absoluteX 3 4 true adcEff

/-- ADC keeps carry and result of the exact sum, and V says that the signed sum does not fit. (42_arith_logic.md section 2 (ADC), 42_arith_logic.md section 1 (arithmetic laws)) -/
def Obligations.AdcOverflowIsSignedOverflow : Prop :=
  ∀ (s : State) (v : Byte), ∃ t, exec (.adcImm v) s = .next t ∧
    t.a.toNat + 256 * bit t.p.c = s.a.toNat + v.toNat + bit s.p.c ∧
    (t.p.v = true ↔ (s.a.toInt + v.toInt + (bit s.p.c : Int) < -128 ∨ 127 < s.a.toInt + v.toInt + (bit s.p.c : Int)))

/-- SBC and *SBC in all their forms: subtraction with borrow, carry, overflow, cost and faults. (R151, R234) -/
def Obligations.SbcEveryForm : Prop :=
  ReadForm 0xE1 .sbcIndX .indexedIndirectX 2 6 false sbcEff ∧
  ReadForm 0xE5 .sbcZp .zeroPage 2 3 false sbcEff ∧
  ImmediateForm 0xE9 .sbcImm sbcEff ∧
  ReadForm 0xED .sbcAbs .absolute 3 4 false sbcEff ∧
  ReadForm 0xF1 .sbcIndY .indirectIndexedY 2 5 true sbcEff ∧
  ReadForm 0xF5 .sbcZpX .zeroPageX 2 4 false sbcEff ∧
  ReadForm 0xF9 .sbcAbsY .absoluteY 3 4 true sbcEff ∧
  ReadForm 0xFD .sbcAbsX .absoluteX 3 4 true sbcEff ∧
  ImmediateForm 0xEB .uSbcImm sbcEff ∧
  (∀ (v : Byte) (s : State), exec (.uSbcImm v) s = exec (.sbcImm v) s ∧ exec (.sbcImm v) s = exec (.adcImm (~~~v)) s)

/-- AND, ORA and EOR in all their forms. (R152, R153, R154) -/
def Obligations.LogicEveryForm : Prop :=
  ReadForm 0x21 .andIndX .indexedIndirectX 2 6 false (fun v t => { t with a := t.a &&& v, p := nz (t.a &&& v) t.p }) ∧
  ReadForm 0x25 .andZp .zeroPage 2 3 false (fun v t => { t with a := t.a &&& v, p := nz (t.a &&& v) t.p }) ∧
  ImmediateForm 0x29 .andImm (fun v t => { t with a := t.a &&& v, p := nz (t.a &&& v) t.p }) ∧
  ReadForm 0x2D .andAbs .absolute 3 4 false (fun v t => { t with a := t.a &&& v, p := nz (t.a &&& v) t.p }) ∧
  ReadForm 0x31 .andIndY .indirectIndexedY 2 5 true (fun v t => { t with a := t.a &&& v, p := nz (t.a &&& v) t.p }) ∧
  ReadForm 0x35 .andZpX .zeroPageX 2 4 false (fun v t => { t with a := t.a &&& v, p := nz (t.a &&& v) t.p }) ∧
  ReadForm 0x39 .andAbsY .absoluteY 3 4 true (fun v t => { t with a := t.a &&& v, p := nz (t.a &&& v) t.p }) ∧
  ReadForm 0x3D .andAbsX .absoluteX 3 4 true (fun v t => { t with a := t.a &&& v, p := nz (t.a &&& v) t.p }) ∧
  ReadForm 0x01 .oraIndX .indexedIndirectX 2 6 false (fun v t => { t with a := t.a ||| v, p := nz (t.a ||| v) t.p }) ∧
  ReadForm 0x05 .oraZp .zeroPage 2 3 false (fun v t => { t with a := t.a ||| v, p := nz (t.a ||| v) t.p }) ∧
  ImmediateForm 0x09 .oraImm (fun v t => { t with a := t.a ||| v, p := nz (t.a ||| v) t.p }) ∧
  ReadForm 0x0D .oraAbs .absolute 3 4 false (fun v t => { t with a := t.a ||| v, p := nz (t.a ||| v) t.p }) ∧
  ReadForm 0x11 .oraIndY .indirectIndexedY 2 5 true (fun v t => { t with a := t.a ||| v, p := nz (t.a ||| v) t.p }) ∧
  ReadForm 0x15 .oraZpX .zeroPageX 2 4 false (fun v t => { t with a := t.a ||| v, p := nz (t.a ||| v) t.p }) ∧
  ReadForm 0x19 .oraAbsY .absoluteY 3 4 true (fun v t => { t with a := t.a ||| v, p := nz (t.a ||| v) t.p }) ∧
  ReadForm 0x1D .oraAbsX .absoluteX 3 4 true (fun v t => { t with a := t.a ||| v, p := nz (t.a ||| v) t.p }) ∧
  ReadForm 0x41 .eorIndX .indexedIndirectX 2 6 false (fun v t => { t with a := t.a ^^^ v, p := nz (t.a ^^^ v) t.p }) ∧
  ReadForm 0x45 .eorZp .zeroPage 2 3 false (fun v t => { t with a := t.a ^^^ v, p := nz (t.a ^^^ v) t.p }) ∧
  ImmediateForm 0x49 .eorImm (fun v t => { t with a := t.a ^^^ v, p := nz (t.a ^^^ v) t.p }) ∧
  ReadForm 0x4D .eorAbs .absolute 3 4 false (fun v t => { t with a := t.a ^^^ v, p := nz (t.a ^^^ v) t.p }) ∧
  ReadForm 0x51 .eorIndY .indirectIndexedY 2 5 true (fun v t => { t with a := t.a ^^^ v, p := nz (t.a ^^^ v) t.p }) ∧
  ReadForm 0x55 .eorZpX .zeroPageX 2 4 false (fun v t => { t with a := t.a ^^^ v, p := nz (t.a ^^^ v) t.p }) ∧
  ReadForm 0x59 .eorAbsY .absoluteY 3 4 true (fun v t => { t with a := t.a ^^^ v, p := nz (t.a ^^^ v) t.p }) ∧
  ReadForm 0x5D .eorAbsX .absoluteX 3 4 true (fun v t => { t with a := t.a ^^^ v, p := nz (t.a ^^^ v) t.p })

/-- BIT, CMP, CPX and CPY in all their forms: flags only. (R155, R156, R157, R158) -/
def Obligations.BitAndComparesEveryForm : Prop :=
  ReadForm 0x24 .bitZp .zeroPage 2 3 false (fun m t => { t with p := { t.p with n := m.getLsbD 7, v := m.getLsbD 6, z := decide (t.a &&& m = 0) } }) ∧
  ReadForm 0x2C .bitAbs .absolute 3 4 false (fun m t => { t with p := { t.p with n := m.getLsbD 7, v := m.getLsbD 6, z := decide (t.a &&& m = 0) } }) ∧
  ReadForm 0xC1 .cmpIndX .indexedIndirectX 2 6 false (fun v t => { t with p := compareFlags t.a v t.p }) ∧
  ReadForm 0xC5 .cmpZp .zeroPage 2 3 false (fun v t => { t with p := compareFlags t.a v t.p }) ∧
  ImmediateForm 0xC9 .cmpImm (fun v t => { t with p := compareFlags t.a v t.p }) ∧
  ReadForm 0xCD .cmpAbs .absolute 3 4 false (fun v t => { t with p := compareFlags t.a v t.p }) ∧
  ReadForm 0xD1 .cmpIndY .indirectIndexedY 2 5 true (fun v t => { t with p := compareFlags t.a v t.p }) ∧
  ReadForm 0xD5 .cmpZpX .zeroPageX 2 4 false (fun v t => { t with p := compareFlags t.a v t.p }) ∧
  ReadForm 0xD9 .cmpAbsY .absoluteY 3 4 true (fun v t => { t with p := compareFlags t.a v t.p }) ∧
  ReadForm 0xDD .cmpAbsX .absoluteX 3 4 true (fun v t => { t with p := compareFlags t.a v t.p }) ∧
  ImmediateForm 0xE0 .cpxImm (fun v t => { t with p := compareFlags t.x v t.p }) ∧
  ReadForm 0xE4 .cpxZp .zeroPage 2 3 false (fun v t => { t with p := compareFlags t.x v t.p }) ∧
  ReadForm 0xEC .cpxAbs .absolute 3 4 false (fun v t => { t with p := compareFlags t.x v t.p }) ∧
  ImmediateForm 0xC0 .cpyImm (fun v t => { t with p := compareFlags t.y v t.p }) ∧
  ReadForm 0xC4 .cpyZp .zeroPage 2 3 false (fun v t => { t with p := compareFlags t.y v t.p }) ∧
  ReadForm 0xCC .cpyAbs .absolute 3 4 false (fun v t => { t with p := compareFlags t.y v t.p })

/-- INC and DEC in all their forms: one read, one write of M plus or minus 1, N and Z, C kept. (R159, R160) -/
def Obligations.IncDecMemoryEveryForm : Prop :=
  RmwForm 0xE6 .incZp .zeroPage 2 5 (fun v c => (BitVec.ofNat 8 (v.toNat + 1), c)) (fun r _ t => { t with p := nz r t.p }) ∧
  RmwForm 0xEE .incAbs .absolute 3 6 (fun v c => (BitVec.ofNat 8 (v.toNat + 1), c)) (fun r _ t => { t with p := nz r t.p }) ∧
  RmwForm 0xF6 .incZpX .zeroPageX 2 6 (fun v c => (BitVec.ofNat 8 (v.toNat + 1), c)) (fun r _ t => { t with p := nz r t.p }) ∧
  RmwForm 0xFE .incAbsX .absoluteX 3 7 (fun v c => (BitVec.ofNat 8 (v.toNat + 1), c)) (fun r _ t => { t with p := nz r t.p }) ∧
  RmwForm 0xC6 .decZp .zeroPage 2 5 (fun v c => (BitVec.ofNat 8 (v.toNat + 255), c)) (fun r _ t => { t with p := nz r t.p }) ∧
  RmwForm 0xCE .decAbs .absolute 3 6 (fun v c => (BitVec.ofNat 8 (v.toNat + 255), c)) (fun r _ t => { t with p := nz r t.p }) ∧
  RmwForm 0xD6 .decZpX .zeroPageX 2 6 (fun v c => (BitVec.ofNat 8 (v.toNat + 255), c)) (fun r _ t => { t with p := nz r t.p }) ∧
  RmwForm 0xDE .decAbsX .absoluteX 3 7 (fun v c => (BitVec.ofNat 8 (v.toNat + 255), c)) (fun r _ t => { t with p := nz r t.p })

/-- INX, INY, DEX and DEY. (R161, R162, R163, R164) -/
def Obligations.IncDecRegisterEveryForm : Prop :=
  ImpliedForm 0xE8 .inx 2 (fun s => { s with x := BitVec.ofNat 8 (s.x.toNat + 1), p := nz (BitVec.ofNat 8 (s.x.toNat + 1)) s.p }) ∧
  ImpliedForm 0xC8 .iny 2 (fun s => { s with y := BitVec.ofNat 8 (s.y.toNat + 1), p := nz (BitVec.ofNat 8 (s.y.toNat + 1)) s.p }) ∧
  ImpliedForm 0xCA .dex 2 (fun s => { s with x := BitVec.ofNat 8 (s.x.toNat + 255), p := nz (BitVec.ofNat 8 (s.x.toNat + 255)) s.p }) ∧
  ImpliedForm 0x88 .dey 2 (fun s => { s with y := BitVec.ofNat 8 (s.y.toNat + 255), p := nz (BitVec.ofNat 8 (s.y.toNat + 255)) s.p })

/-- ASL, LSR, ROL and ROR on A and on memory. (R180, R181, R182, R183) -/
def Obligations.ShiftsEveryForm : Prop :=
  RmwForm 0x06 .aslZp .zeroPage 2 5 aslFun shiftFlags ∧
  ImpliedForm 0x0A .aslAcc 2 (fun s => shiftFlags (aslFun s.a s.p.c).1 (aslFun s.a s.p.c).2 { s with a := (aslFun s.a s.p.c).1 }) ∧
  RmwForm 0x0E .aslAbs .absolute 3 6 aslFun shiftFlags ∧
  RmwForm 0x16 .aslZpX .zeroPageX 2 6 aslFun shiftFlags ∧
  RmwForm 0x1E .aslAbsX .absoluteX 3 7 aslFun shiftFlags ∧
  RmwForm 0x46 .lsrZp .zeroPage 2 5 lsrFun shiftFlags ∧
  ImpliedForm 0x4A .lsrAcc 2 (fun s => shiftFlags (lsrFun s.a s.p.c).1 (lsrFun s.a s.p.c).2 { s with a := (lsrFun s.a s.p.c).1 }) ∧
  RmwForm 0x4E .lsrAbs .absolute 3 6 lsrFun shiftFlags ∧
  RmwForm 0x56 .lsrZpX .zeroPageX 2 6 lsrFun shiftFlags ∧
  RmwForm 0x5E .lsrAbsX .absoluteX 3 7 lsrFun shiftFlags ∧
  RmwForm 0x26 .rolZp .zeroPage 2 5 rolFun shiftFlags ∧
  ImpliedForm 0x2A .rolAcc 2 (fun s => shiftFlags (rolFun s.a s.p.c).1 (rolFun s.a s.p.c).2 { s with a := (rolFun s.a s.p.c).1 }) ∧
  RmwForm 0x2E .rolAbs .absolute 3 6 rolFun shiftFlags ∧
  RmwForm 0x36 .rolZpX .zeroPageX 2 6 rolFun shiftFlags ∧
  RmwForm 0x3E .rolAbsX .absoluteX 3 7 rolFun shiftFlags ∧
  RmwForm 0x66 .rorZp .zeroPage 2 5 rorFun shiftFlags ∧
  ImpliedForm 0x6A .rorAcc 2 (fun s => shiftFlags (rorFun s.a s.p.c).1 (rorFun s.a s.p.c).2 { s with a := (rorFun s.a s.p.c).1 }) ∧
  RmwForm 0x6E .rorAbs .absolute 3 6 rorFun shiftFlags ∧
  RmwForm 0x76 .rorZpX .zeroPageX 2 6 rorFun shiftFlags ∧
  RmwForm 0x7E .rorAbsX .absoluteX 3 7 rorFun shiftFlags

/-- PHA, PHP, PLA and PLP: the byte moved, SP, flags, cost. (R190, R191, R192, R193) -/
def Obligations.PushesAndPulls : Prop :=
  ImpliedForm 0x48 .pha 3 (fun s => pushed s.a s) ∧
  ImpliedForm 0x08 .php 3 (fun s => pushed (statusByte s.p ||| 0x30) s) ∧
  ImpliedForm 0x68 .pla 4 (fun s => { pulled s with a := stackByte s (s.sp + 1), p := nz (stackByte s (s.sp + 1)) s.p }) ∧
  ImpliedForm 0x28 .plp 4 (fun s => { pulled s with p := restored (stackByte s (s.sp + 1)) s.p })

/-- JMP absolute and JMP indirect, with the page-wrap parameter. (R112, R200) -/
def Obligations.JmpBothForms : Prop :=
  (∀ (w : Addr) (s : State), (Instr.jmpAbs w).opcode = 0x4C ∧
    exec (.jmpAbs w) s = .next { s with pc := w, cyc := s.cyc + 3 }) ∧
  (∀ (w : Addr) (s : State), (Instr.jmpInd w).opcode = 0x6C ∧
    let high := if s.params.jmpIndirectPageWrap = true
      then BitVec.ofNat 16 (w.toNat / 256 * 256 + (w.toNat + 1) % 256)
      else BitVec.ofNat 16 ((w.toNat + 1) % 65536)
    (Mapped w → Mapped high → ∃ l h t u, busRead w s = .ok (l, t) ∧ busRead high t = .ok (h, u) ∧
      exec (.jmpInd w) s = .next { u with pc := BitVec.ofNat 16 (wordValue l h), cyc := s.cyc + 5 }) ∧
    (Unmapped w → exec (.jmpInd w) s = .fault (.unmappedAccess w s.pc)) ∧
    (Mapped w → Unmapped high → exec (.jmpInd w) s = .fault (.unmappedAccess high s.pc)))

/-- JSR pushes PC+2 high byte first and jumps; RTS pulls low then high and adds 1. (R202, R203) -/
def Obligations.JsrAndRts : Prop :=
  (∀ (w : Addr) (s : State), (Instr.jsr w).opcode = 0x20 ∧
    let ret := BitVec.ofNat 16 ((s.pc.toNat + 2) % 65536)
    exec (.jsr w) s = .next { pushed (BitVec.ofNat 8 (ret.toNat % 256)) (pushed (BitVec.ofNat 8 (ret.toNat / 256)) s) with
      pc := w, cyc := s.cyc + 6 }) ∧
  (∀ s : State, Instr.rts.opcode = 0x60 ∧
    exec .rts s = .next { pulled (pulled s) with
      pc := BitVec.ofNat 16 ((wordValue (stackByte s (s.sp + 1)) (stackByte s (s.sp + 2)) + 1) % 65536),
      cyc := s.cyc + 6 })

/-- BRK saves PC+2 and the status byte, sets I and goes to the word at 0xFFFE. (R204, R262) -/
def Obligations.BrkTakesTheTrap : Prop :=
  ∀ s : State, Instr.brk.opcode = 0x00 ∧
    let ret := BitVec.ofNat 16 ((s.pc.toNat + 2) % 65536)
    let saved := pushed (statusByte s.p ||| 0x30)
      (pushed (BitVec.ofNat 8 (ret.toNat % 256)) (pushed (BitVec.ofNat 8 (ret.toNat / 256)) s))
    let l := s.prg.read (0xFFFE % s.params.bankSize.bytes)
    let h := s.prg.read (0xFFFF % s.params.bankSize.bytes)
    exec .brk s = .next { seen 0xFFFF (seen 0xFFFE saved) with
      p := { s.p with i := true }, pc := BitVec.ofNat 16 (wordValue l h), cyc := s.cyc + 7 }

/-- RTI restores the status byte but Bh and Bl, then PC without adding 1. (R205, R263) -/
def Obligations.RtiReturnsFromTheTrap : Prop :=
  ∀ s : State, Instr.rti.opcode = 0x40 ∧
    exec .rti s = .next { pulled (pulled (pulled s)) with
      p := restored (stackByte s (s.sp + 1)) s.p,
      pc := BitVec.ofNat 16 (wordValue (stackByte s (s.sp + 2)) (stackByte s (s.sp + 3))),
      cyc := s.cyc + 6 }

/-- The eight branches: condition, target, cost. (R115, R118, R206, R207, R208, R209, R210, R211, R212, R213, R214) -/
def Obligations.BranchesEveryForm : Prop :=
  BranchForm 0x90 .bcc (fun p => p.c = false) ∧
  BranchForm 0xB0 .bcs (fun p => p.c = true) ∧
  BranchForm 0xF0 .beq (fun p => p.z = true) ∧
  BranchForm 0xD0 .bne (fun p => p.z = false) ∧
  BranchForm 0x30 .bmi (fun p => p.n = true) ∧
  BranchForm 0x10 .bpl (fun p => p.n = false) ∧
  BranchForm 0x50 .bvc (fun p => p.v = false) ∧
  BranchForm 0x70 .bvs (fun p => p.v = true)

/-- CLC, SEC, CLI, SEI, CLD, SED, CLV and NOP. (R220, R221, R222, R223, R224, R225, R226, R227) -/
def Obligations.FlagInstructionsAndNop : Prop :=
  ImpliedForm 0x18 .clc 2 (fun s => { s with p := { s.p with c := false } }) ∧
  ImpliedForm 0x38 .sec 2 (fun s => { s with p := { s.p with c := true } }) ∧
  ImpliedForm 0x58 .cli 2 (fun s => { s with p := { s.p with i := false } }) ∧
  ImpliedForm 0x78 .sei 2 (fun s => { s with p := { s.p with i := true } }) ∧
  ImpliedForm 0xD8 .cld 2 (fun s => { s with p := { s.p with d := false } }) ∧
  ImpliedForm 0xF8 .sed 2 (fun s => { s with p := { s.p with d := true } }) ∧
  ImpliedForm 0xB8 .clv 2 (fun s => { s with p := { s.p with v := false } }) ∧
  ImpliedForm 0xEA .nop 2 (fun s => s)

/-- *NOP in its six forms: the memory forms read and discard. (R231) -/
def Obligations.UnofficialNopsEveryForm : Prop :=
  ReadForm 0x04 .uNopZp04 .zeroPage 2 3 false (fun _ t => t) ∧
  ReadForm 0x0C .uNopAbs0C .absolute 3 4 false (fun _ t => t) ∧
  ReadForm 0x14 .uNopZpX14 .zeroPageX 2 4 false (fun _ t => t) ∧
  ImpliedForm 0x1A .uNop1A 2 (fun t => t) ∧
  ReadForm 0x1C .uNopAbsX1C .absoluteX 3 4 true (fun _ t => t) ∧
  ReadForm 0x34 .uNopZpX34 .zeroPageX 2 4 false (fun _ t => t) ∧
  ImpliedForm 0x3A .uNop3A 2 (fun t => t) ∧
  ReadForm 0x3C .uNopAbsX3C .absoluteX 3 4 true (fun _ t => t) ∧
  ReadForm 0x44 .uNopZp44 .zeroPage 2 3 false (fun _ t => t) ∧
  ReadForm 0x54 .uNopZpX54 .zeroPageX 2 4 false (fun _ t => t) ∧
  ImpliedForm 0x5A .uNop5A 2 (fun t => t) ∧
  ReadForm 0x5C .uNopAbsX5C .absoluteX 3 4 true (fun _ t => t) ∧
  ReadForm 0x64 .uNopZp64 .zeroPage 2 3 false (fun _ t => t) ∧
  ReadForm 0x74 .uNopZpX74 .zeroPageX 2 4 false (fun _ t => t) ∧
  ImpliedForm 0x7A .uNop7A 2 (fun t => t) ∧
  ReadForm 0x7C .uNopAbsX7C .absoluteX 3 4 true (fun _ t => t) ∧
  ImmediateForm 0x80 .uNopImm80 (fun _ t => t) ∧
  ReadForm 0xD4 .uNopZpXD4 .zeroPageX 2 4 false (fun _ t => t) ∧
  ImpliedForm 0xDA .uNopDA 2 (fun t => t) ∧
  ReadForm 0xDC .uNopAbsXDC .absoluteX 3 4 true (fun _ t => t) ∧
  ReadForm 0xF4 .uNopZpXF4 .zeroPageX 2 4 false (fun _ t => t) ∧
  ImpliedForm 0xFA .uNopFA 2 (fun t => t) ∧
  ReadForm 0xFC .uNopAbsXFC .absoluteX 3 4 true (fun _ t => t)

/-- *DCP and *ISB in all their forms. (R235, R236) -/
def Obligations.DcpAndIsbEveryForm : Prop :=
  RmwForm 0xC3 .dcpIndX .indexedIndirectX 2 8 (fun v c => (BitVec.ofNat 8 (v.toNat + 255), c)) (fun r _ t => { t with p := compareFlags t.a r t.p }) ∧
  RmwForm 0xC7 .dcpZp .zeroPage 2 5 (fun v c => (BitVec.ofNat 8 (v.toNat + 255), c)) (fun r _ t => { t with p := compareFlags t.a r t.p }) ∧
  RmwForm 0xCF .dcpAbs .absolute 3 6 (fun v c => (BitVec.ofNat 8 (v.toNat + 255), c)) (fun r _ t => { t with p := compareFlags t.a r t.p }) ∧
  RmwForm 0xD3 .dcpIndY .indirectIndexedY 2 8 (fun v c => (BitVec.ofNat 8 (v.toNat + 255), c)) (fun r _ t => { t with p := compareFlags t.a r t.p }) ∧
  RmwForm 0xD7 .dcpZpX .zeroPageX 2 6 (fun v c => (BitVec.ofNat 8 (v.toNat + 255), c)) (fun r _ t => { t with p := compareFlags t.a r t.p }) ∧
  RmwForm 0xDB .dcpAbsY .absoluteY 3 7 (fun v c => (BitVec.ofNat 8 (v.toNat + 255), c)) (fun r _ t => { t with p := compareFlags t.a r t.p }) ∧
  RmwForm 0xDF .dcpAbsX .absoluteX 3 7 (fun v c => (BitVec.ofNat 8 (v.toNat + 255), c)) (fun r _ t => { t with p := compareFlags t.a r t.p }) ∧
  RmwForm 0xE3 .isbIndX .indexedIndirectX 2 8 (fun v c => (BitVec.ofNat 8 (v.toNat + 1), c)) (fun r _ t => sbcEff r t) ∧
  RmwForm 0xE7 .isbZp .zeroPage 2 5 (fun v c => (BitVec.ofNat 8 (v.toNat + 1), c)) (fun r _ t => sbcEff r t) ∧
  RmwForm 0xEF .isbAbs .absolute 3 6 (fun v c => (BitVec.ofNat 8 (v.toNat + 1), c)) (fun r _ t => sbcEff r t) ∧
  RmwForm 0xF3 .isbIndY .indirectIndexedY 2 8 (fun v c => (BitVec.ofNat 8 (v.toNat + 1), c)) (fun r _ t => sbcEff r t) ∧
  RmwForm 0xF7 .isbZpX .zeroPageX 2 6 (fun v c => (BitVec.ofNat 8 (v.toNat + 1), c)) (fun r _ t => sbcEff r t) ∧
  RmwForm 0xFB .isbAbsY .absoluteY 3 7 (fun v c => (BitVec.ofNat 8 (v.toNat + 1), c)) (fun r _ t => sbcEff r t) ∧
  RmwForm 0xFF .isbAbsX .absoluteX 3 7 (fun v c => (BitVec.ofNat 8 (v.toNat + 1), c)) (fun r _ t => sbcEff r t)

/-- *SLO, *RLA, *SRE and *RRA in all their forms. (R237, R238, R239, R240) -/
def Obligations.ShiftCompositesEveryForm : Prop :=
  RmwForm 0x03 .sloIndX .indexedIndirectX 2 8 aslFun (fun r c t => loadAC (t.a ||| r) c t) ∧
  RmwForm 0x07 .sloZp .zeroPage 2 5 aslFun (fun r c t => loadAC (t.a ||| r) c t) ∧
  RmwForm 0x0F .sloAbs .absolute 3 6 aslFun (fun r c t => loadAC (t.a ||| r) c t) ∧
  RmwForm 0x13 .sloIndY .indirectIndexedY 2 8 aslFun (fun r c t => loadAC (t.a ||| r) c t) ∧
  RmwForm 0x17 .sloZpX .zeroPageX 2 6 aslFun (fun r c t => loadAC (t.a ||| r) c t) ∧
  RmwForm 0x1B .sloAbsY .absoluteY 3 7 aslFun (fun r c t => loadAC (t.a ||| r) c t) ∧
  RmwForm 0x1F .sloAbsX .absoluteX 3 7 aslFun (fun r c t => loadAC (t.a ||| r) c t) ∧
  RmwForm 0x23 .rlaIndX .indexedIndirectX 2 8 rolFun (fun r c t => loadAC (t.a &&& r) c t) ∧
  RmwForm 0x27 .rlaZp .zeroPage 2 5 rolFun (fun r c t => loadAC (t.a &&& r) c t) ∧
  RmwForm 0x2F .rlaAbs .absolute 3 6 rolFun (fun r c t => loadAC (t.a &&& r) c t) ∧
  RmwForm 0x33 .rlaIndY .indirectIndexedY 2 8 rolFun (fun r c t => loadAC (t.a &&& r) c t) ∧
  RmwForm 0x37 .rlaZpX .zeroPageX 2 6 rolFun (fun r c t => loadAC (t.a &&& r) c t) ∧
  RmwForm 0x3B .rlaAbsY .absoluteY 3 7 rolFun (fun r c t => loadAC (t.a &&& r) c t) ∧
  RmwForm 0x3F .rlaAbsX .absoluteX 3 7 rolFun (fun r c t => loadAC (t.a &&& r) c t) ∧
  RmwForm 0x43 .sreIndX .indexedIndirectX 2 8 lsrFun (fun r c t => loadAC (t.a ^^^ r) c t) ∧
  RmwForm 0x47 .sreZp .zeroPage 2 5 lsrFun (fun r c t => loadAC (t.a ^^^ r) c t) ∧
  RmwForm 0x4F .sreAbs .absolute 3 6 lsrFun (fun r c t => loadAC (t.a ^^^ r) c t) ∧
  RmwForm 0x53 .sreIndY .indirectIndexedY 2 8 lsrFun (fun r c t => loadAC (t.a ^^^ r) c t) ∧
  RmwForm 0x57 .sreZpX .zeroPageX 2 6 lsrFun (fun r c t => loadAC (t.a ^^^ r) c t) ∧
  RmwForm 0x5B .sreAbsY .absoluteY 3 7 lsrFun (fun r c t => loadAC (t.a ^^^ r) c t) ∧
  RmwForm 0x5F .sreAbsX .absoluteX 3 7 lsrFun (fun r c t => loadAC (t.a ^^^ r) c t) ∧
  RmwForm 0x63 .rraIndX .indexedIndirectX 2 8 rorFun (fun r c t => adcEff r { t with p := { t.p with c := c } }) ∧
  RmwForm 0x67 .rraZp .zeroPage 2 5 rorFun (fun r c t => adcEff r { t with p := { t.p with c := c } }) ∧
  RmwForm 0x6F .rraAbs .absolute 3 6 rorFun (fun r c t => adcEff r { t with p := { t.p with c := c } }) ∧
  RmwForm 0x73 .rraIndY .indirectIndexedY 2 8 rorFun (fun r c t => adcEff r { t with p := { t.p with c := c } }) ∧
  RmwForm 0x77 .rraZpX .zeroPageX 2 6 rorFun (fun r c t => adcEff r { t with p := { t.p with c := c } }) ∧
  RmwForm 0x7B .rraAbsY .absoluteY 3 7 rorFun (fun r c t => adcEff r { t with p := { t.p with c := c } }) ∧
  RmwForm 0x7F .rraAbsX .absoluteX 3 7 rorFun (fun r c t => adcEff r { t with p := { t.p with c := c } })

/-- An instruction leaves every byte it does not store to as it was. (20_memory.md section 5 (side effects), 41_load_store_transfer.md to 47_unofficial.md (operations)) -/
def Obligations.MemoryChangesOnlyWhereAnInstructionStores : Prop :=
  ∀ (i : Instr) (s t : State), exec i s = .next t →
    ∀ a : Addr, (∀ b ∈ storesTo i s, ¬ SameStorage a b) → peek a t = peek a s

/-- A, X, Y and SP are written only by the instructions the spec lists. (10_state.md section 1 (written-by lists of A, X, Y, SP)) -/
def Obligations.RegistersChangeOnlyByTheirWriters : Prop :=
  ∀ (i : Instr) (s t : State), exec i s = .next t →
    (¬ writesA i → t.a = s.a) ∧ (¬ writesX i → t.x = s.x) ∧ (¬ writesY i → t.y = s.y) ∧ (¬ writesSP i → t.sp = s.sp)

/-- Each flag is written only by the instructions the spec lists, and Bh and Bl by none. (10_state.md section 3 (status flags)) -/
def Obligations.FlagsChangeOnlyByTheirWriters : Prop :=
  ∀ (i : Instr) (s t : State), exec i s = .next t →
    (¬ writesNZ i → t.p.n = s.p.n ∧ t.p.z = s.p.z) ∧ (¬ writesV i → t.p.v = s.p.v) ∧ (¬ writesD i → t.p.d = s.p.d) ∧
    (¬ writesI i → t.p.i = s.p.i) ∧ (¬ writesC i → t.p.c = s.p.c) ∧ t.p.bh = s.p.bh ∧ t.p.bl = s.p.bl

/-- No instruction changes PRG, the parameters, the debug sets, the status or the trace; the PPU history only grows. (10_state.md section 7 (what is not state), 20_memory.md section 3 (PRG-ROM, PPU), 60_exceptions.md section 5 (debug port), notes/assumptions/10.md: that State keeps the delivered lines is the model's choice) -/
def Obligations.ExecutionLeavesConfigurationAndDebugState : Prop :=
  ∀ (i : Instr) (s t : State), exec i s = .next t →
    t.prg = s.prg ∧ t.params = s.params ∧ t.breakpoints = s.breakpoints ∧ t.watchpoints = s.watchpoints ∧
    t.status = s.status ∧ t.trace = s.trace ∧ (∃ es, t.busHistory = s.busHistory ++ es) ∧
    (s.watchHit = true → t.watchHit = true)

/-- Every instruction costs its table row's base cycles plus the penalty, and PC advances by its length unless it sets PC. (R88, R117, R300) -/
def Obligations.CostAndProgramCounterFollowTheTable : Prop :=
  ∀ (i : Instr) (s t : State), exec i s = .next t →
    t.cyc = s.cyc + i.row.baseCycles + penalty i s ∧
    (¬ setsPC i ∨ (i.mode = .relative ∧ penalty i s = 0) → t.pc = s.pc + BitVec.ofNat 16 i.length)

/-- No register, flag, memory value or fault depends on CYC. (70_reset_and_hazards.md section 5 (timing), 10_state.md section 7 (CYC)) -/
def Obligations.CyclesGateNothing : Prop :=
  ∀ (i : Instr) (s : State) (n : Nat),
    exec i { s with cyc := n } = onNext (fun t => { t with cyc := n + (t.cyc - s.cyc) }) (exec i s)

/-- D and I change no result: they are only stored, pushed and restored. (10_state.md section 3 (D and I), 42_arith_logic.md section 1 (D inert), 60_exceptions.md section 2 (no interrupts)) -/
def Obligations.DecimalAndInterruptFlagsGateNothing : Prop :=
  ∀ (i : Instr) (s : State) (d j : Bool), ¬ writesD i → ¬ writesI i → i.mnemonic ≠ .php →
    exec i { s with p := { s.p with d := d, i := j } } =
      onNext (fun t => { t with p := { t.p with d := d, i := j } }) (exec i s)

/-- Watchpoints change nothing of what an instruction does but watchHit. (20_memory.md section 5 (watchpoints), 60_exceptions.md section 5 (deferred halt)) -/
def Obligations.WatchpointsDoNotStopAccesses : Prop :=
  ∀ (i : Instr) (s : State) (ws : AddrSet) (b : Bool),
    onNext (fun t => { t with watchHit := false, watchpoints := [] }) (exec i { s with watchpoints := ws, watchHit := b }) =
      onNext (fun t => { t with watchHit := false, watchpoints := [] }) (exec i s)

/-- An instruction faults only on an unmapped access or a ROM write, with its own pc, and is never refused. (R253) -/
def Obligations.OnlyBusAccessesFaultAndNothingIsRefused : Prop :=
  (∀ (i : Instr) (s : State),
    (∃ t, exec i s = .next t) ∨
    ((∃ m, i.operand = .memory m) ∨ ∃ w, i.operand = .indirect w) ∧
      ((∃ a, Unmapped a ∧ exec i s = .fault (.unmappedAccess a s.pc)) ∨
       (∃ a, RomFault s a ∧ exec i s = .fault (.romWrite a s.pc)))) ∧
  (∀ s : State, s.status = .running →
    (∃ t, step s = .next t) ∨ (∃ op, step s = .fault (.unimplementedOpcode op s.pc)) ∨
    (∃ a, Unmapped a ∧ step s = .fault (.unmappedAccess a s.pc)) ∨
    (∃ a, RomFault s a ∧ step s = .fault (.romWrite a s.pc)))

/-- RTS right after JSR returns to the instruction after the JSR with SP restored. (45_control_flow.md (JSR, RTS), 20_memory.md section 4 (the stack)) -/
def Obligations.JsrThenRtsReturns : Prop :=
  ∀ (w : Addr) (s : State), ∃ t u, exec (.jsr w) s = .next t ∧ exec .rts t = .next u ∧
    u.pc = s.pc + 3 ∧ u.sp = s.sp ∧ u.a = s.a ∧ u.x = s.x ∧ u.y = s.y ∧ u.p = s.p

/-- RTI right after BRK returns to BRK + 2 with SP and every flag restored. (60_exceptions.md section 3 (trap entry and return), 45_control_flow.md (BRK, RTI)) -/
def Obligations.BrkThenRtiReturns : Prop :=
  ∀ s : State, ∃ t u, exec .brk s = .next t ∧ t.p.i = true ∧ exec .rti t = .next u ∧
    u.pc = s.pc + 2 ∧ u.sp = s.sp ∧ u.a = s.a ∧ u.x = s.x ∧ u.y = s.y ∧ u.p = s.p

/-- A step runs the instruction that the bytes at PC decode to, and delivers its trace line (that State keeps it is the model's choice, log 10). (30_encoding.md section 3 (the step, R87), 20_memory.md section 6 (instruction fetch), notes/assumptions/10.md: that State keeps the delivered lines is the model's choice) -/
def Obligations.StepRunsTheFetchedInstruction : Prop :=
  ∀ (s t : State) (i : Instr) (bs : List Byte), Ready s → i.wellFormed s.params = true →
    busReads i.length s.pc { s with watchHit := false } = .ok (bs, t) → decode bs = .ok (i, []) →
    let line := traceLine { s with watchHit := false } ⟨i, bs, t⟩
    step s = (match exec i t with
      | .next u => .next { u with trace := u.trace ++ [line],
                                  status := if u.watchHit then .halted (.watchpoint line) else u.status }
      | .fault f => .fault f
      | .refused r => .refused r)

/-- A fetch faults on an unmapped PC, with that address; at a mapped PC it completes or meets an opcode without entry. (60_exceptions.md section 2 (order of events), 20_memory.md sections 3 and 6 (fatal region, instruction fetch), 30_encoding.md section 3 (the step)) -/
def Obligations.FetchFaultsOnlyAtAnUnmappedPc : Prop :=
  ∀ s : State, Ready s →
    (Unmapped s.pc → step s = .fault (.unmappedAccess s.pc s.pc)) ∧
    (Mapped s.pc → (∃ f, fetch { s with watchHit := false } = .ok f) ∨
      ∃ op t, busRead s.pc { s with watchHit := false } = .ok (op, t) ∧ step s = .fault (.unimplementedOpcode op s.pc))

/-- A breakpoint at PC halts the step before the fetch, once. (R271) -/
def Obligations.BreakpointFiresOnce : Prop :=
  ∀ s : State, s.status = .running → s.pc ∈ s.breakpoints →
    ∃ t, step s = .next t ∧
      t = { s with watchHit := false, breakpoints := s.breakpoints.filter (fun b => b ≠ s.pc),
                   status := .halted (.breakpoint s.pc) } ∧
      Ready (resume t) ∧ (resume t).pc = s.pc

/-- A touched watchpoint halts the core only after the instruction has executed and delivered its line (kept in State: log 10). (60_exceptions.md section 5 (rule R274), notes/assumptions/10.md: that State keeps the delivered lines is the model's choice) -/
def Obligations.WatchpointHaltsAfterTheInstruction : Prop :=
  ∀ s t : State, Ready s → step s = .next t →
    ∃ (f : Fetched) (v : State) (line : TraceLine), fetch { s with watchHit := false } = .ok f ∧
      exec f.instr f.after = .next v ∧ line.pc = s.pc ∧ line.bytes = f.bytes ∧ t.watchpoints = s.watchpoints ∧
      t = { v with trace := s.trace ++ [line],
                   status := if v.watchHit = true then .halted (.watchpoint line) else .running }

/-- The trace line of a step shows PC, bytes, mnemonic, operand, registers, status byte and CYC from before the instruction. (60_exceptions.md section 5 (trace line), 30_encoding.md section 3 (the step), notes/assumptions/10.md: that State keeps the delivered lines is the model's choice) -/
def Obligations.TraceLineShowsTheStateBefore : Prop :=
  ∀ s t : State, Ready s → step s = .next t →
    ∃ (f : Fetched) (line : TraceLine), fetch { s with watchHit := false } = .ok f ∧ t.trace = s.trace ++ [line] ∧
      line.pc = s.pc ∧ line.a = s.a ∧ line.x = s.x ∧ line.y = s.y ∧ line.sp = s.sp ∧ line.p = statusByte s.p ∧
      line.cyc = s.cyc ∧ line.bytes = f.bytes ∧ f.bytes = encode f.instr ∧ line.mnemonic = f.instr.mnemonic ∧
      line.operand = traceOperand f.instr f.after

/-- The operand part of every instruction's trace line: the byte before a store or RMW, the byte an operand read returns, the target of a jump or branch. (60_exceptions.md section 5 (operand text per mode), notes/assumptions/9.md: that an unspecified peek is none is the model's choice, notes/assumptions/18.md: that the indirect target is the word the instruction reads is the model's inference) -/
def Obligations.TraceOperandsShowTheByteBefore : Prop :=
  ∀ (i : Instr) (s : State),
    (i.operand = .implied → traceOperand i s = .implied) ∧
    (i.operand = .accumulator → traceOperand i s = .accumulator) ∧
    (∀ v, i.operand = .immediate v → traceOperand i s = .immediate v) ∧
    (∀ w, i.operand = .target w → traceOperand i s = .target w) ∧
    (∀ off, i.operand = .relative off → traceOperand i s = .relative (BitVec.ofInt 16 ((s.pc + 2).toNat + off.toInt))) ∧
    (∀ w, i.operand = .indirect w →
      let high := if s.params.jmpIndirectPageWrap = true
        then BitVec.ofNat 16 (w.toNat / 256 * 256 + (w.toNat + 1) % 256)
        else BitVec.ofNat 16 ((w.toNat + 1) % 65536)
      ∀ l h t u, busRead w s = .ok (l, t) → busRead high t = .ok (h, u) →
        traceOperand i s = .indirect w (BitVec.ofNat 16 (wordValue l h))) ∧
    (∀ m, i.operand = .memory m →
      ∃ vv : Option Byte, traceOperand i s = memoryText m vv s ∧
        (readsFirst i → ∀ v t, busRead (effAddress m s) (afterPointer m s) = .ok (v, t) → vv = some v) ∧
        (¬ readsFirst i → vv = peek (effAddress m s) s))

/-- A halted core stays until the host resumes, a faulted one for ever (the form of the answer is the model's choice, log 7, 8, 15). (10_state.md section 7 (run status), 60_exceptions.md sections 1 and 5 (faults, halts), notes/assumptions/7.md, 8.md, 15.md: how the model answers such a step is its choice) -/
def Obligations.HaltedWaitsAndFaultedIsTerminal : Prop :=
  (∀ (s : State) (h : HaltReason), s.status = .halted h → step s = .next s ∧ resume s = { s with status := .running }) ∧
  (∀ (s : State) (f : Fault), s.status = .faulted f → step s = .fault f ∧ resume s = s ∧ ∀ n, tick^[n] s = s) ∧
  (∀ (s : State) (f : Fault), step s = .fault f → tick s = { s with status := .faulted f })

/-- Adding a breakpoint or watchpoint inserts it once, the set canonical (log 14); a peek agrees with the bus, never faults, is none if unspecified (log 9). (60_exceptions.md section 5 (debugger control surface), notes/assumptions/9.md: that an unspecified peek is none is the model's choice, notes/assumptions/14.md: the canonical form of a set is the model's choice) -/
def Obligations.DebugPortSetsAndPeeks : Prop :=
  (∀ (s : State) (a b : Addr), AddrSet.wf s.breakpoints = true → AddrSet.wf s.watchpoints = true →
    (b ∈ (addBreakpoint a s).breakpoints ↔ b = a ∨ b ∈ s.breakpoints) ∧ AddrSet.wf (addBreakpoint a s).breakpoints = true ∧
    addBreakpoint a (addBreakpoint a s) = addBreakpoint a s ∧
    (b ∈ (addWatchpoint a s).watchpoints ↔ b = a ∨ b ∈ s.watchpoints) ∧ AddrSet.wf (addWatchpoint a s).watchpoints = true ∧
    addWatchpoint a (addWatchpoint a s) = addWatchpoint a s) ∧
  (∀ (s : State) (a : Addr), (peek a s = none ↔ (0x2000 ≤ a.toNat ∧ a.toNat < 0x4000) ∨ Unmapped a) ∧
    ∀ v, peek a s = some v → ∃ t, busRead a s = .ok (v, t))

/-- The run loop halts at the first trace line that differs from the golden log, surfacing both lines (compared by field as shown: log 9, 11). (60_exceptions.md section 5 (run loop), notes/assumptions/11.md: the comparison by field, and that a mismatch overrides the halt of a watchpoint touched by the same step, are the model's choices, notes/assumptions/9.md: the free byte shown for an unspecified peek is the model's choice, notes/assumptions/10.md: that State keeps the delivered lines is the model's choice) -/
def Obligations.GoldenLoopHaltsAtTheFirstMismatch : Prop :=
  ∀ (s t : State) (expected actual : TraceLine) (log : List TraceLine) (fuel : Nat), s.status = .running →
    step s = .next t → t.trace = s.trace ++ [actual] →
    (expected.shown = actual.shown → runGolden (fuel + 1) (expected :: log) s = runGolden fuel log t) ∧
    (expected.shown ≠ actual.shown → runGolden (fuel + 1) (expected :: log) s =
      { t with status := .halted (.goldenMismatch expected actual) })

/-- Every step keeps the machine invariant (its draw counter and canonical debug sets are the model's choices, log 5, 14). (10_state.md sections 3, 6 and 7, 20_memory.md sections 3 and 4, 60_exceptions.md section 5, notes/assumptions/5.md: the draw counter is the model's choice, notes/assumptions/14.md: the canonical form of the debug sets is the model's choice) -/
def Obligations.StepKeepsTheInvariant : Prop :=
  ∀ s t : State, s.Inv → step s = .next t → t.Inv ∧ t.prg = s.prg ∧ t.params = s.params

/-- The invariant holds at State.reset and after the boot of every well-formed cartridge (log 1, 2, 5, 14: the model's choices). (70_reset_and_hazards.md section 1 (boot), 10_state.md section 8 (reset values), notes/assumptions/1.md, 2.md: the empty memories of State.reset are the model's choice, notes/assumptions/5.md: the draw counter, 0 at boot, is the model's choice, notes/assumptions/14.md: the canonical form of the debug sets is the model's choice) -/
def Obligations.BootSatisfiesTheInvariant : Prop :=
  State.reset.Inv ∧
  ∀ (cart : Cartridge) (ps : Params) (w : Memory) (b : BootPc), cart.prg.wf cart.bankSize.bytes = true → w.wf 2048 = true →
    (boot cart ps w b).Inv

/-- Every executed instruction adds from 2 to 8 cycles, an official one at most 7 (the unofficial counts are provisional: R241, log 17). (opcode_table.json (base cycles), 30_encoding.md section 3 (R88), 40_addressing.md section 2 (R117, R118), 10_state.md section 7 (CYC is monotonic), 60_exceptions.md section 4 (CYC), notes/assumptions/17.md: the unofficial rows' counts, the only ones that reach 8, are provisional) -/
def Obligations.CyclesStrictlyIncrease : Prop :=
  ∀ s t : State, Ready s → step s = .next t → s.cyc + 2 ≤ t.cyc ∧ t.cyc ≤ s.cyc + 8 ∧
    ∀ f, fetch { s with watchHit := false } = .ok f → official f.instr → t.cyc ≤ s.cyc + 7
end

