-- ==== Sys2Proof/Laws/Memory.lean ====
section
/-! SUPPORT. The laws of memory arrays: read after write, for every array whatever its form, and the canonical form,
which every operation keeps. -/

namespace Sys2Proof.Machine

@[simp] theorem Memory.read_nil (k : Nat) : Memory.read [] k = Memory.unlisted := rfl

theorem Memory.read_cons (j k : Nat) (w : Byte) (m : Memory) :
    Memory.read ((j, w) :: m) k = if j = k then w else Memory.read m k := rfl

theorem Memory.read_erase_same (m : Memory) (k : Nat) :
    Memory.read (m.filter (fun c => c.1 != k)) k = Memory.unlisted := by
  induction m with
  | nil => rfl
  | cons c m ih =>
    obtain ⟨j, w⟩ := c
    by_cases h : j = k
    · subst h; simpa using ih
    · simpa [h, Memory.read_cons] using ih

theorem Memory.read_erase_other (m : Memory) {j k : Nat} (h : j ≠ k) :
    Memory.read (m.filter (fun c => c.1 != k)) j = Memory.read m j := by
  induction m with
  | nil => rfl
  | cons c m ih =>
    obtain ⟨i, w⟩ := c
    by_cases hi : i = k
    · subst hi; simpa [Memory.read_cons, Ne.symm h] using ih
    · by_cases hj : i = j
      · subst hj; simp [hi, Memory.read_cons]
      · simpa [hi, hj, Memory.read_cons] using ih

theorem Memory.read_insert (m : Memory) (k : Nat) (v : Byte)
    (hm : ∀ c ∈ m, c.1 ≠ k) (j : Nat) :
    Memory.read (Memory.insert k v m) j = if k = j then v else Memory.read m j := by
  induction m with
  | nil => simp [Memory.insert, Memory.read_cons]
  | cons c m ih =>
    obtain ⟨i, w⟩ := c
    have hi : i ≠ k := hm (i, w) (by simp)
    have ih := ih (fun c hc => hm c (by simp [hc]))
    by_cases h : k < i
    · simp [Memory.insert, h, Memory.read_cons]
    · by_cases hj : k = j
      · subst hj; simp [Memory.insert, h, Memory.read_cons, hi, ih]
      · simp [Memory.insert, h, Memory.read_cons, ih, hj]

/-- Read after write. -/
theorem Memory.read_write (m : Memory) (k j : Nat) (v : Byte) :
    (m.write k v).read j = if k = j then v else m.read j := by
  unfold Memory.write
  by_cases hv : v = Memory.unlisted
  · by_cases h : k = j
    · subst h; simp [hv, Memory.read_erase_same]
    · simp [hv, h, Memory.read_erase_other m (Ne.symm h)]
  · rw [if_neg hv, Memory.read_insert _ _ _ (by simp)]
    by_cases h : k = j
    · simp [h]
    · simp [h, Memory.read_erase_other m (Ne.symm h)]

@[simp] theorem Memory.read_write_same (m : Memory) (k : Nat) (v : Byte) : (m.write k v).read k = v := by
  simp [Memory.read_write]

theorem Memory.read_write_other (m : Memory) {k j : Nat} (v : Byte) (h : k ≠ j) :
    (m.write k v).read j = m.read j := by
  simp [Memory.read_write, h]

/-- The canonical form as a proposition. -/
theorem Memory.wf_iff (size : Nat) (m : Memory) :
    m.wf size = true ↔ m.Pairwise (fun c d => c.1 < d.1) ∧ ∀ c ∈ m, c.1 < size ∧ c.2 ≠ Memory.unlisted := by
  simp [Memory.wf, List.all_eq_true]

theorem Memory.mem_insert {m : Memory} {k : Nat} {v : Byte} {c : Host.Cell} (h : c ∈ Memory.insert k v m) :
    c = (k, v) ∨ c ∈ m := by
  induction m with
  | nil => simpa [Memory.insert] using h
  | cons d m ih =>
    obtain ⟨i, w⟩ := d
    by_cases hi : k < i
    · simpa [Memory.insert, hi] using h
    · rw [Memory.insert, if_neg hi] at h
      rcases List.mem_cons.mp h with h | h
      · exact .inr (by simp [h])
      · exact (ih h).imp_right (by simp [·])

theorem Memory.pairwise_insert {m : Memory} {k : Nat} {v : Byte} (hm : m.Pairwise (fun c d => c.1 < d.1))
    (hk : ∀ c ∈ m, c.1 ≠ k) : (Memory.insert k v m).Pairwise (fun c d => c.1 < d.1) := by
  induction m with
  | nil => simp [Memory.insert]
  | cons d m ih =>
    obtain ⟨i, w⟩ := d
    have hd := List.pairwise_cons.mp hm
    by_cases hi : k < i
    · rw [Memory.insert, if_pos hi]
      refine List.pairwise_cons.mpr ⟨fun c hc => ?_, hm⟩
      rcases List.mem_cons.mp hc with h | h
      · simpa [h] using hi
      · exact lt_trans hi (hd.1 c h)
    · have hik : i ≠ k := hk (i, w) (by simp)
      rw [Memory.insert, if_neg hi]
      refine List.pairwise_cons.mpr ⟨fun c hc => ?_, ih hd.2 fun c hc => hk c (by simp [hc])⟩
      rcases Memory.mem_insert hc with h | h
      · simp only [h]; omega
      · exact hd.1 c h

/-- A write keeps the canonical form. -/
theorem Memory.wf_write {size : Nat} {m : Memory} (hm : m.wf size = true) {k : Nat} (hk : k < size) (v : Byte) :
    (m.write k v).wf size = true := by
  rw [Memory.wf_iff] at hm ⊢
  have hp : (m.filter (fun c => c.1 != k)).Pairwise (fun c d => c.1 < d.1) := hm.1.filter _
  have ha : ∀ c ∈ m.filter (fun c => c.1 != k), c.1 < size ∧ c.2 ≠ Memory.unlisted :=
    fun c hc => hm.2 c (List.mem_of_mem_filter hc)
  unfold Memory.write
  by_cases hv : v = Memory.unlisted
  · simpa [hv] using And.intro hp ha
  · rw [if_neg hv]
    refine ⟨Memory.pairwise_insert hp (by simp), fun c hc => ?_⟩
    rcases Memory.mem_insert hc with h | h
    · simpa [h] using And.intro hk hv
    · exact ha c h

@[simp] theorem Memory.wf_nil (size : Nat) : Memory.wf size [] = true := rfl

theorem Memory.mem_ofBytes {k : Nat} {bs : List Byte} {c : Host.Cell} (h : c ∈ Memory.ofBytes k bs) :
    k ≤ c.1 ∧ c.1 < k + bs.length ∧ c.2 ≠ Memory.unlisted := by
  induction bs generalizing k with
  | nil => simp [Memory.ofBytes] at h
  | cons b bs ih =>
    by_cases hb : b = Memory.unlisted
    · rw [Memory.ofBytes, if_pos hb] at h
      have := ih h
      simp only [List.length_cons]; exact ⟨by omega, by omega, this.2.2⟩
    · rw [Memory.ofBytes, if_neg hb] at h
      rcases List.mem_cons.mp h with h | h
      · subst h; simp [hb]
      · have := ih h
        simp only [List.length_cons]; exact ⟨by omega, by omega, this.2.2⟩

/-- The contents of a byte list are in canonical form. -/
theorem Memory.wf_ofBytes {size : Nat} {bs : List Byte} (h : bs.length ≤ size) :
    (Memory.ofBytes 0 bs).wf size = true := by
  rw [Memory.wf_iff]
  refine ⟨?_, fun c hc => by have := Memory.mem_ofBytes hc; exact ⟨by omega, this.2.2⟩⟩
  clear h
  generalize 0 = k
  induction bs generalizing k with
  | nil => simp [Memory.ofBytes]
  | cons b bs ih =>
    by_cases hb : b = Memory.unlisted
    · rw [Memory.ofBytes, if_pos hb]; exact ih _
    · rw [Memory.ofBytes, if_neg hb]
      refine List.pairwise_cons.mpr ⟨fun c hc => ?_, ih _⟩
      have := Memory.mem_ofBytes hc
      show k < c.1
      omega

theorem Memory.read_eq_unlisted {m : Memory} {k : Nat} (h : ∀ c ∈ m, c.1 ≠ k) : m.read k = Memory.unlisted := by
  induction m with
  | nil => rfl
  | cons c m ih =>
    obtain ⟨j, w⟩ := c
    rw [Memory.read_cons, if_neg (h (j, w) (by simp)), ih fun c hc => h c (by simp [hc])]

/-- Reading the contents of a byte list gives the bytes. -/
theorem Memory.read_ofBytes (k : Nat) (bs : List Byte) (j : Nat) :
    (Memory.ofBytes k bs).read (k + j) = bs.getD j Memory.unlisted := by
  induction bs generalizing k j with
  | nil => simp [Memory.ofBytes]
  | cons b bs ih =>
    cases j with
    | zero =>
      by_cases hb : b = Memory.unlisted
      · rw [Memory.ofBytes, if_pos hb, Memory.read_eq_unlisted]
        · simp [hb]
        · intro c hc; have := Memory.mem_ofBytes hc; omega
      · simp [Memory.ofBytes, hb, Memory.read_cons]
    | succ j =>
      have ih := ih (k + 1) j
      rw [show k + 1 + j = k + (j + 1) by omega] at ih
      by_cases hb : b = Memory.unlisted
      · rw [Memory.ofBytes, if_pos hb, ih]; simp
      · rw [Memory.ofBytes, if_neg hb, Memory.read_cons, if_neg (by omega), ih]; simp

end Sys2Proof.Machine
end

