-- ==== Sys2Proof/Laws/State.lean ====
section
/-! SUPPORT. One lemma per field per update of the state, true by rfl: no later proof unfolds a record update. -/

namespace Sys2Proof.Machine

variable (s : State)

@[simp] theorem touch_pc (a : Addr) : (touch a s).pc = s.pc := rfl
@[simp] theorem touch_a (a : Addr) : (touch a s).a = s.a := rfl
@[simp] theorem touch_x (a : Addr) : (touch a s).x = s.x := rfl
@[simp] theorem touch_y (a : Addr) : (touch a s).y = s.y := rfl
@[simp] theorem touch_sp (a : Addr) : (touch a s).sp = s.sp := rfl
@[simp] theorem touch_p (a : Addr) : (touch a s).p = s.p := rfl
@[simp] theorem touch_cyc (a : Addr) : (touch a s).cyc = s.cyc := rfl
@[simp] theorem touch_wram (a : Addr) : (touch a s).wram = s.wram := rfl
@[simp] theorem touch_prg (a : Addr) : (touch a s).prg = s.prg := rfl
@[simp] theorem touch_params (a : Addr) : (touch a s).params = s.params := rfl
@[simp] theorem touch_busHistory (a : Addr) : (touch a s).busHistory = s.busHistory := rfl
@[simp] theorem touch_ppuChoice (a : Addr) : (touch a s).ppuChoice = s.ppuChoice := rfl
@[simp] theorem touch_breakpoints (a : Addr) : (touch a s).breakpoints = s.breakpoints := rfl
@[simp] theorem touch_watchpoints (a : Addr) : (touch a s).watchpoints = s.watchpoints := rfl
@[simp] theorem touch_watchHit (a : Addr) : (touch a s).watchHit = (s.watchHit || s.watchpoints.contains a) := rfl
@[simp] theorem touch_status (a : Addr) : (touch a s).status = s.status := rfl
@[simp] theorem touch_trace (a : Addr) : (touch a s).trace = s.trace := rfl

@[simp] theorem logPpu_pc (e : BusEvent) : (logPpu e s).pc = s.pc := rfl
@[simp] theorem logPpu_a (e : BusEvent) : (logPpu e s).a = s.a := rfl
@[simp] theorem logPpu_x (e : BusEvent) : (logPpu e s).x = s.x := rfl
@[simp] theorem logPpu_y (e : BusEvent) : (logPpu e s).y = s.y := rfl
@[simp] theorem logPpu_sp (e : BusEvent) : (logPpu e s).sp = s.sp := rfl
@[simp] theorem logPpu_p (e : BusEvent) : (logPpu e s).p = s.p := rfl
@[simp] theorem logPpu_cyc (e : BusEvent) : (logPpu e s).cyc = s.cyc := rfl
@[simp] theorem logPpu_wram (e : BusEvent) : (logPpu e s).wram = s.wram := rfl
@[simp] theorem logPpu_prg (e : BusEvent) : (logPpu e s).prg = s.prg := rfl
@[simp] theorem logPpu_params (e : BusEvent) : (logPpu e s).params = s.params := rfl
@[simp] theorem logPpu_busHistory (e : BusEvent) : (logPpu e s).busHistory = s.busHistory ++ [e] := rfl
@[simp] theorem logPpu_ppuChoice (e : BusEvent) : (logPpu e s).ppuChoice = s.ppuChoice := rfl
@[simp] theorem logPpu_breakpoints (e : BusEvent) : (logPpu e s).breakpoints = s.breakpoints := rfl
@[simp] theorem logPpu_watchpoints (e : BusEvent) : (logPpu e s).watchpoints = s.watchpoints := rfl
@[simp] theorem logPpu_watchHit (e : BusEvent) : (logPpu e s).watchHit = s.watchHit := rfl
@[simp] theorem logPpu_status (e : BusEvent) : (logPpu e s).status = s.status := rfl
@[simp] theorem logPpu_trace (e : BusEvent) : (logPpu e s).trace = s.trace := rfl

@[simp] theorem spend_pc (n : Nat) : (spend n s).pc = s.pc := rfl
@[simp] theorem spend_a (n : Nat) : (spend n s).a = s.a := rfl
@[simp] theorem spend_x (n : Nat) : (spend n s).x = s.x := rfl
@[simp] theorem spend_y (n : Nat) : (spend n s).y = s.y := rfl
@[simp] theorem spend_sp (n : Nat) : (spend n s).sp = s.sp := rfl
@[simp] theorem spend_p (n : Nat) : (spend n s).p = s.p := rfl
@[simp] theorem spend_cyc (n : Nat) : (spend n s).cyc = s.cyc + n := rfl
@[simp] theorem spend_wram (n : Nat) : (spend n s).wram = s.wram := rfl
@[simp] theorem spend_prg (n : Nat) : (spend n s).prg = s.prg := rfl
@[simp] theorem spend_params (n : Nat) : (spend n s).params = s.params := rfl
@[simp] theorem spend_busHistory (n : Nat) : (spend n s).busHistory = s.busHistory := rfl
@[simp] theorem spend_ppuChoice (n : Nat) : (spend n s).ppuChoice = s.ppuChoice := rfl
@[simp] theorem spend_breakpoints (n : Nat) : (spend n s).breakpoints = s.breakpoints := rfl
@[simp] theorem spend_watchpoints (n : Nat) : (spend n s).watchpoints = s.watchpoints := rfl
@[simp] theorem spend_watchHit (n : Nat) : (spend n s).watchHit = s.watchHit := rfl
@[simp] theorem spend_status (n : Nat) : (spend n s).status = s.status := rfl
@[simp] theorem spend_trace (n : Nat) : (spend n s).trace = s.trace := rfl

@[simp] theorem jumpTo_pc (t : Addr) : (jumpTo t s).pc = t := rfl
@[simp] theorem jumpTo_a (t : Addr) : (jumpTo t s).a = s.a := rfl
@[simp] theorem jumpTo_x (t : Addr) : (jumpTo t s).x = s.x := rfl
@[simp] theorem jumpTo_y (t : Addr) : (jumpTo t s).y = s.y := rfl
@[simp] theorem jumpTo_sp (t : Addr) : (jumpTo t s).sp = s.sp := rfl
@[simp] theorem jumpTo_p (t : Addr) : (jumpTo t s).p = s.p := rfl
@[simp] theorem jumpTo_cyc (t : Addr) : (jumpTo t s).cyc = s.cyc := rfl
@[simp] theorem jumpTo_wram (t : Addr) : (jumpTo t s).wram = s.wram := rfl
@[simp] theorem jumpTo_prg (t : Addr) : (jumpTo t s).prg = s.prg := rfl
@[simp] theorem jumpTo_params (t : Addr) : (jumpTo t s).params = s.params := rfl
@[simp] theorem jumpTo_busHistory (t : Addr) : (jumpTo t s).busHistory = s.busHistory := rfl
@[simp] theorem jumpTo_ppuChoice (t : Addr) : (jumpTo t s).ppuChoice = s.ppuChoice := rfl
@[simp] theorem jumpTo_breakpoints (t : Addr) : (jumpTo t s).breakpoints = s.breakpoints := rfl
@[simp] theorem jumpTo_watchpoints (t : Addr) : (jumpTo t s).watchpoints = s.watchpoints := rfl
@[simp] theorem jumpTo_watchHit (t : Addr) : (jumpTo t s).watchHit = s.watchHit := rfl
@[simp] theorem jumpTo_status (t : Addr) : (jumpTo t s).status = s.status := rfl
@[simp] theorem jumpTo_trace (t : Addr) : (jumpTo t s).trace = s.trace := rfl

@[simp] theorem finish_pc (l n : Nat) : (finish l n s).pc = s.pc + BitVec.ofNat 16 l := rfl
@[simp] theorem finish_a (l n : Nat) : (finish l n s).a = s.a := rfl
@[simp] theorem finish_x (l n : Nat) : (finish l n s).x = s.x := rfl
@[simp] theorem finish_y (l n : Nat) : (finish l n s).y = s.y := rfl
@[simp] theorem finish_sp (l n : Nat) : (finish l n s).sp = s.sp := rfl
@[simp] theorem finish_p (l n : Nat) : (finish l n s).p = s.p := rfl
@[simp] theorem finish_cyc (l n : Nat) : (finish l n s).cyc = s.cyc + n := rfl
@[simp] theorem finish_wram (l n : Nat) : (finish l n s).wram = s.wram := rfl
@[simp] theorem finish_prg (l n : Nat) : (finish l n s).prg = s.prg := rfl
@[simp] theorem finish_params (l n : Nat) : (finish l n s).params = s.params := rfl
@[simp] theorem finish_busHistory (l n : Nat) : (finish l n s).busHistory = s.busHistory := rfl
@[simp] theorem finish_ppuChoice (l n : Nat) : (finish l n s).ppuChoice = s.ppuChoice := rfl
@[simp] theorem finish_breakpoints (l n : Nat) : (finish l n s).breakpoints = s.breakpoints := rfl
@[simp] theorem finish_watchpoints (l n : Nat) : (finish l n s).watchpoints = s.watchpoints := rfl
@[simp] theorem finish_watchHit (l n : Nat) : (finish l n s).watchHit = s.watchHit := rfl
@[simp] theorem finish_status (l n : Nat) : (finish l n s).status = s.status := rfl
@[simp] theorem finish_trace (l n : Nat) : (finish l n s).trace = s.trace := rfl

@[simp] theorem zpTouch_pc (z : Byte) : (zpTouch z s).pc = s.pc := rfl
@[simp] theorem zpTouch_a (z : Byte) : (zpTouch z s).a = s.a := rfl
@[simp] theorem zpTouch_x (z : Byte) : (zpTouch z s).x = s.x := rfl
@[simp] theorem zpTouch_y (z : Byte) : (zpTouch z s).y = s.y := rfl
@[simp] theorem zpTouch_sp (z : Byte) : (zpTouch z s).sp = s.sp := rfl
@[simp] theorem zpTouch_p (z : Byte) : (zpTouch z s).p = s.p := rfl
@[simp] theorem zpTouch_cyc (z : Byte) : (zpTouch z s).cyc = s.cyc := rfl
@[simp] theorem zpTouch_wram (z : Byte) : (zpTouch z s).wram = s.wram := rfl
@[simp] theorem zpTouch_prg (z : Byte) : (zpTouch z s).prg = s.prg := rfl
@[simp] theorem zpTouch_params (z : Byte) : (zpTouch z s).params = s.params := rfl
@[simp] theorem zpTouch_busHistory (z : Byte) : (zpTouch z s).busHistory = s.busHistory := rfl
@[simp] theorem zpTouch_ppuChoice (z : Byte) : (zpTouch z s).ppuChoice = s.ppuChoice := rfl
@[simp] theorem zpTouch_breakpoints (z : Byte) : (zpTouch z s).breakpoints = s.breakpoints := rfl
@[simp] theorem zpTouch_watchpoints (z : Byte) : (zpTouch z s).watchpoints = s.watchpoints := rfl
@[simp] theorem zpTouch_watchHit (z : Byte) : (zpTouch z s).watchHit = ((s.watchHit || s.watchpoints.contains (zext16 z)) || s.watchpoints.contains (zext16 (z + 1))) := rfl
@[simp] theorem zpTouch_status (z : Byte) : (zpTouch z s).status = s.status := rfl
@[simp] theorem zpTouch_trace (z : Byte) : (zpTouch z s).trace = s.trace := rfl

@[simp] theorem push_pc (v : Byte) : (push v s).pc = s.pc := rfl
@[simp] theorem push_a (v : Byte) : (push v s).a = s.a := rfl
@[simp] theorem push_x (v : Byte) : (push v s).x = s.x := rfl
@[simp] theorem push_y (v : Byte) : (push v s).y = s.y := rfl
@[simp] theorem push_sp (v : Byte) : (push v s).sp = s.sp - 1 := rfl
@[simp] theorem push_p (v : Byte) : (push v s).p = s.p := rfl
@[simp] theorem push_cyc (v : Byte) : (push v s).cyc = s.cyc := rfl
@[simp] theorem push_wram (v : Byte) : (push v s).wram = s.wram.write (wramIndex (stackAddr s.sp)) v := rfl
@[simp] theorem push_prg (v : Byte) : (push v s).prg = s.prg := rfl
@[simp] theorem push_params (v : Byte) : (push v s).params = s.params := rfl
@[simp] theorem push_busHistory (v : Byte) : (push v s).busHistory = s.busHistory := rfl
@[simp] theorem push_ppuChoice (v : Byte) : (push v s).ppuChoice = s.ppuChoice := rfl
@[simp] theorem push_breakpoints (v : Byte) : (push v s).breakpoints = s.breakpoints := rfl
@[simp] theorem push_watchpoints (v : Byte) : (push v s).watchpoints = s.watchpoints := rfl
@[simp] theorem push_watchHit (v : Byte) : (push v s).watchHit = (s.watchHit || s.watchpoints.contains (stackAddr s.sp)) := rfl
@[simp] theorem push_status (v : Byte) : (push v s).status = s.status := rfl
@[simp] theorem push_trace (v : Byte) : (push v s).trace = s.trace := rfl

@[simp] theorem pull_snd_pc : ((pull s).2).pc = s.pc := rfl
@[simp] theorem pull_snd_a : ((pull s).2).a = s.a := rfl
@[simp] theorem pull_snd_x : ((pull s).2).x = s.x := rfl
@[simp] theorem pull_snd_y : ((pull s).2).y = s.y := rfl
@[simp] theorem pull_snd_sp : ((pull s).2).sp = s.sp + 1 := rfl
@[simp] theorem pull_snd_p : ((pull s).2).p = s.p := rfl
@[simp] theorem pull_snd_cyc : ((pull s).2).cyc = s.cyc := rfl
@[simp] theorem pull_snd_wram : ((pull s).2).wram = s.wram := rfl
@[simp] theorem pull_snd_prg : ((pull s).2).prg = s.prg := rfl
@[simp] theorem pull_snd_params : ((pull s).2).params = s.params := rfl
@[simp] theorem pull_snd_busHistory : ((pull s).2).busHistory = s.busHistory := rfl
@[simp] theorem pull_snd_ppuChoice : ((pull s).2).ppuChoice = s.ppuChoice := rfl
@[simp] theorem pull_snd_breakpoints : ((pull s).2).breakpoints = s.breakpoints := rfl
@[simp] theorem pull_snd_watchpoints : ((pull s).2).watchpoints = s.watchpoints := rfl
@[simp] theorem pull_snd_watchHit : ((pull s).2).watchHit = (s.watchHit || s.watchpoints.contains (stackAddr (s.sp + 1))) := rfl
@[simp] theorem pull_snd_status : ((pull s).2).status = s.status := rfl
@[simp] theorem pull_snd_trace : ((pull s).2).trace = s.trace := rfl

@[simp] theorem setA_pc (v : Byte) : (setA v s).pc = s.pc := rfl
@[simp] theorem setA_a (v : Byte) : (setA v s).a = v := rfl
@[simp] theorem setA_x (v : Byte) : (setA v s).x = s.x := rfl
@[simp] theorem setA_y (v : Byte) : (setA v s).y = s.y := rfl
@[simp] theorem setA_sp (v : Byte) : (setA v s).sp = s.sp := rfl
@[simp] theorem setA_p (v : Byte) : (setA v s).p = s.p.setNZ v := rfl
@[simp] theorem setA_cyc (v : Byte) : (setA v s).cyc = s.cyc := rfl
@[simp] theorem setA_wram (v : Byte) : (setA v s).wram = s.wram := rfl
@[simp] theorem setA_prg (v : Byte) : (setA v s).prg = s.prg := rfl
@[simp] theorem setA_params (v : Byte) : (setA v s).params = s.params := rfl
@[simp] theorem setA_busHistory (v : Byte) : (setA v s).busHistory = s.busHistory := rfl
@[simp] theorem setA_ppuChoice (v : Byte) : (setA v s).ppuChoice = s.ppuChoice := rfl
@[simp] theorem setA_breakpoints (v : Byte) : (setA v s).breakpoints = s.breakpoints := rfl
@[simp] theorem setA_watchpoints (v : Byte) : (setA v s).watchpoints = s.watchpoints := rfl
@[simp] theorem setA_watchHit (v : Byte) : (setA v s).watchHit = s.watchHit := rfl
@[simp] theorem setA_status (v : Byte) : (setA v s).status = s.status := rfl
@[simp] theorem setA_trace (v : Byte) : (setA v s).trace = s.trace := rfl

@[simp] theorem setX_pc (v : Byte) : (setX v s).pc = s.pc := rfl
@[simp] theorem setX_a (v : Byte) : (setX v s).a = s.a := rfl
@[simp] theorem setX_x (v : Byte) : (setX v s).x = v := rfl
@[simp] theorem setX_y (v : Byte) : (setX v s).y = s.y := rfl
@[simp] theorem setX_sp (v : Byte) : (setX v s).sp = s.sp := rfl
@[simp] theorem setX_p (v : Byte) : (setX v s).p = s.p.setNZ v := rfl
@[simp] theorem setX_cyc (v : Byte) : (setX v s).cyc = s.cyc := rfl
@[simp] theorem setX_wram (v : Byte) : (setX v s).wram = s.wram := rfl
@[simp] theorem setX_prg (v : Byte) : (setX v s).prg = s.prg := rfl
@[simp] theorem setX_params (v : Byte) : (setX v s).params = s.params := rfl
@[simp] theorem setX_busHistory (v : Byte) : (setX v s).busHistory = s.busHistory := rfl
@[simp] theorem setX_ppuChoice (v : Byte) : (setX v s).ppuChoice = s.ppuChoice := rfl
@[simp] theorem setX_breakpoints (v : Byte) : (setX v s).breakpoints = s.breakpoints := rfl
@[simp] theorem setX_watchpoints (v : Byte) : (setX v s).watchpoints = s.watchpoints := rfl
@[simp] theorem setX_watchHit (v : Byte) : (setX v s).watchHit = s.watchHit := rfl
@[simp] theorem setX_status (v : Byte) : (setX v s).status = s.status := rfl
@[simp] theorem setX_trace (v : Byte) : (setX v s).trace = s.trace := rfl

@[simp] theorem setY_pc (v : Byte) : (setY v s).pc = s.pc := rfl
@[simp] theorem setY_a (v : Byte) : (setY v s).a = s.a := rfl
@[simp] theorem setY_x (v : Byte) : (setY v s).x = s.x := rfl
@[simp] theorem setY_y (v : Byte) : (setY v s).y = v := rfl
@[simp] theorem setY_sp (v : Byte) : (setY v s).sp = s.sp := rfl
@[simp] theorem setY_p (v : Byte) : (setY v s).p = s.p.setNZ v := rfl
@[simp] theorem setY_cyc (v : Byte) : (setY v s).cyc = s.cyc := rfl
@[simp] theorem setY_wram (v : Byte) : (setY v s).wram = s.wram := rfl
@[simp] theorem setY_prg (v : Byte) : (setY v s).prg = s.prg := rfl
@[simp] theorem setY_params (v : Byte) : (setY v s).params = s.params := rfl
@[simp] theorem setY_busHistory (v : Byte) : (setY v s).busHistory = s.busHistory := rfl
@[simp] theorem setY_ppuChoice (v : Byte) : (setY v s).ppuChoice = s.ppuChoice := rfl
@[simp] theorem setY_breakpoints (v : Byte) : (setY v s).breakpoints = s.breakpoints := rfl
@[simp] theorem setY_watchpoints (v : Byte) : (setY v s).watchpoints = s.watchpoints := rfl
@[simp] theorem setY_watchHit (v : Byte) : (setY v s).watchHit = s.watchHit := rfl
@[simp] theorem setY_status (v : Byte) : (setY v s).status = s.status := rfl
@[simp] theorem setY_trace (v : Byte) : (setY v s).trace = s.trace := rfl

@[simp] theorem setAX_pc (v : Byte) : (setAX v s).pc = s.pc := rfl
@[simp] theorem setAX_a (v : Byte) : (setAX v s).a = v := rfl
@[simp] theorem setAX_x (v : Byte) : (setAX v s).x = v := rfl
@[simp] theorem setAX_y (v : Byte) : (setAX v s).y = s.y := rfl
@[simp] theorem setAX_sp (v : Byte) : (setAX v s).sp = s.sp := rfl
@[simp] theorem setAX_p (v : Byte) : (setAX v s).p = s.p.setNZ v := rfl
@[simp] theorem setAX_cyc (v : Byte) : (setAX v s).cyc = s.cyc := rfl
@[simp] theorem setAX_wram (v : Byte) : (setAX v s).wram = s.wram := rfl
@[simp] theorem setAX_prg (v : Byte) : (setAX v s).prg = s.prg := rfl
@[simp] theorem setAX_params (v : Byte) : (setAX v s).params = s.params := rfl
@[simp] theorem setAX_busHistory (v : Byte) : (setAX v s).busHistory = s.busHistory := rfl
@[simp] theorem setAX_ppuChoice (v : Byte) : (setAX v s).ppuChoice = s.ppuChoice := rfl
@[simp] theorem setAX_breakpoints (v : Byte) : (setAX v s).breakpoints = s.breakpoints := rfl
@[simp] theorem setAX_watchpoints (v : Byte) : (setAX v s).watchpoints = s.watchpoints := rfl
@[simp] theorem setAX_watchHit (v : Byte) : (setAX v s).watchHit = s.watchHit := rfl
@[simp] theorem setAX_status (v : Byte) : (setAX v s).status = s.status := rfl
@[simp] theorem setAX_trace (v : Byte) : (setAX v s).trace = s.trace := rfl

@[simp] theorem addToA_pc (v : Byte) : (addToA v s).pc = s.pc := rfl
@[simp] theorem addToA_a (v : Byte) : (addToA v s).a = addResult s.a v s.p.c := rfl
@[simp] theorem addToA_x (v : Byte) : (addToA v s).x = s.x := rfl
@[simp] theorem addToA_y (v : Byte) : (addToA v s).y = s.y := rfl
@[simp] theorem addToA_sp (v : Byte) : (addToA v s).sp = s.sp := rfl
@[simp] theorem addToA_p (v : Byte) : (addToA v s).p = s.p.add s.a v := rfl
@[simp] theorem addToA_cyc (v : Byte) : (addToA v s).cyc = s.cyc := rfl
@[simp] theorem addToA_wram (v : Byte) : (addToA v s).wram = s.wram := rfl
@[simp] theorem addToA_prg (v : Byte) : (addToA v s).prg = s.prg := rfl
@[simp] theorem addToA_params (v : Byte) : (addToA v s).params = s.params := rfl
@[simp] theorem addToA_busHistory (v : Byte) : (addToA v s).busHistory = s.busHistory := rfl
@[simp] theorem addToA_ppuChoice (v : Byte) : (addToA v s).ppuChoice = s.ppuChoice := rfl
@[simp] theorem addToA_breakpoints (v : Byte) : (addToA v s).breakpoints = s.breakpoints := rfl
@[simp] theorem addToA_watchpoints (v : Byte) : (addToA v s).watchpoints = s.watchpoints := rfl
@[simp] theorem addToA_watchHit (v : Byte) : (addToA v s).watchHit = s.watchHit := rfl
@[simp] theorem addToA_status (v : Byte) : (addToA v s).status = s.status := rfl
@[simp] theorem addToA_trace (v : Byte) : (addToA v s).trace = s.trace := rfl

@[simp] theorem bitA_pc (v : Byte) : (bitA v s).pc = s.pc := rfl
@[simp] theorem bitA_a (v : Byte) : (bitA v s).a = s.a := rfl
@[simp] theorem bitA_x (v : Byte) : (bitA v s).x = s.x := rfl
@[simp] theorem bitA_y (v : Byte) : (bitA v s).y = s.y := rfl
@[simp] theorem bitA_sp (v : Byte) : (bitA v s).sp = s.sp := rfl
@[simp] theorem bitA_p (v : Byte) : (bitA v s).p = s.p.bitTest s.a v := rfl
@[simp] theorem bitA_cyc (v : Byte) : (bitA v s).cyc = s.cyc := rfl
@[simp] theorem bitA_wram (v : Byte) : (bitA v s).wram = s.wram := rfl
@[simp] theorem bitA_prg (v : Byte) : (bitA v s).prg = s.prg := rfl
@[simp] theorem bitA_params (v : Byte) : (bitA v s).params = s.params := rfl
@[simp] theorem bitA_busHistory (v : Byte) : (bitA v s).busHistory = s.busHistory := rfl
@[simp] theorem bitA_ppuChoice (v : Byte) : (bitA v s).ppuChoice = s.ppuChoice := rfl
@[simp] theorem bitA_breakpoints (v : Byte) : (bitA v s).breakpoints = s.breakpoints := rfl
@[simp] theorem bitA_watchpoints (v : Byte) : (bitA v s).watchpoints = s.watchpoints := rfl
@[simp] theorem bitA_watchHit (v : Byte) : (bitA v s).watchHit = s.watchHit := rfl
@[simp] theorem bitA_status (v : Byte) : (bitA v s).status = s.status := rfl
@[simp] theorem bitA_trace (v : Byte) : (bitA v s).trace = s.trace := rfl

@[simp] theorem compareA_pc (v : Byte) : (compareA v s).pc = s.pc := rfl
@[simp] theorem compareA_a (v : Byte) : (compareA v s).a = s.a := rfl
@[simp] theorem compareA_x (v : Byte) : (compareA v s).x = s.x := rfl
@[simp] theorem compareA_y (v : Byte) : (compareA v s).y = s.y := rfl
@[simp] theorem compareA_sp (v : Byte) : (compareA v s).sp = s.sp := rfl
@[simp] theorem compareA_p (v : Byte) : (compareA v s).p = s.p.compare s.a v := rfl
@[simp] theorem compareA_cyc (v : Byte) : (compareA v s).cyc = s.cyc := rfl
@[simp] theorem compareA_wram (v : Byte) : (compareA v s).wram = s.wram := rfl
@[simp] theorem compareA_prg (v : Byte) : (compareA v s).prg = s.prg := rfl
@[simp] theorem compareA_params (v : Byte) : (compareA v s).params = s.params := rfl
@[simp] theorem compareA_busHistory (v : Byte) : (compareA v s).busHistory = s.busHistory := rfl
@[simp] theorem compareA_ppuChoice (v : Byte) : (compareA v s).ppuChoice = s.ppuChoice := rfl
@[simp] theorem compareA_breakpoints (v : Byte) : (compareA v s).breakpoints = s.breakpoints := rfl
@[simp] theorem compareA_watchpoints (v : Byte) : (compareA v s).watchpoints = s.watchpoints := rfl
@[simp] theorem compareA_watchHit (v : Byte) : (compareA v s).watchHit = s.watchHit := rfl
@[simp] theorem compareA_status (v : Byte) : (compareA v s).status = s.status := rfl
@[simp] theorem compareA_trace (v : Byte) : (compareA v s).trace = s.trace := rfl

@[simp] theorem compareX_pc (v : Byte) : (compareX v s).pc = s.pc := rfl
@[simp] theorem compareX_a (v : Byte) : (compareX v s).a = s.a := rfl
@[simp] theorem compareX_x (v : Byte) : (compareX v s).x = s.x := rfl
@[simp] theorem compareX_y (v : Byte) : (compareX v s).y = s.y := rfl
@[simp] theorem compareX_sp (v : Byte) : (compareX v s).sp = s.sp := rfl
@[simp] theorem compareX_p (v : Byte) : (compareX v s).p = s.p.compare s.x v := rfl
@[simp] theorem compareX_cyc (v : Byte) : (compareX v s).cyc = s.cyc := rfl
@[simp] theorem compareX_wram (v : Byte) : (compareX v s).wram = s.wram := rfl
@[simp] theorem compareX_prg (v : Byte) : (compareX v s).prg = s.prg := rfl
@[simp] theorem compareX_params (v : Byte) : (compareX v s).params = s.params := rfl
@[simp] theorem compareX_busHistory (v : Byte) : (compareX v s).busHistory = s.busHistory := rfl
@[simp] theorem compareX_ppuChoice (v : Byte) : (compareX v s).ppuChoice = s.ppuChoice := rfl
@[simp] theorem compareX_breakpoints (v : Byte) : (compareX v s).breakpoints = s.breakpoints := rfl
@[simp] theorem compareX_watchpoints (v : Byte) : (compareX v s).watchpoints = s.watchpoints := rfl
@[simp] theorem compareX_watchHit (v : Byte) : (compareX v s).watchHit = s.watchHit := rfl
@[simp] theorem compareX_status (v : Byte) : (compareX v s).status = s.status := rfl
@[simp] theorem compareX_trace (v : Byte) : (compareX v s).trace = s.trace := rfl

@[simp] theorem compareY_pc (v : Byte) : (compareY v s).pc = s.pc := rfl
@[simp] theorem compareY_a (v : Byte) : (compareY v s).a = s.a := rfl
@[simp] theorem compareY_x (v : Byte) : (compareY v s).x = s.x := rfl
@[simp] theorem compareY_y (v : Byte) : (compareY v s).y = s.y := rfl
@[simp] theorem compareY_sp (v : Byte) : (compareY v s).sp = s.sp := rfl
@[simp] theorem compareY_p (v : Byte) : (compareY v s).p = s.p.compare s.y v := rfl
@[simp] theorem compareY_cyc (v : Byte) : (compareY v s).cyc = s.cyc := rfl
@[simp] theorem compareY_wram (v : Byte) : (compareY v s).wram = s.wram := rfl
@[simp] theorem compareY_prg (v : Byte) : (compareY v s).prg = s.prg := rfl
@[simp] theorem compareY_params (v : Byte) : (compareY v s).params = s.params := rfl
@[simp] theorem compareY_busHistory (v : Byte) : (compareY v s).busHistory = s.busHistory := rfl
@[simp] theorem compareY_ppuChoice (v : Byte) : (compareY v s).ppuChoice = s.ppuChoice := rfl
@[simp] theorem compareY_breakpoints (v : Byte) : (compareY v s).breakpoints = s.breakpoints := rfl
@[simp] theorem compareY_watchpoints (v : Byte) : (compareY v s).watchpoints = s.watchpoints := rfl
@[simp] theorem compareY_watchHit (v : Byte) : (compareY v s).watchHit = s.watchHit := rfl
@[simp] theorem compareY_status (v : Byte) : (compareY v s).status = s.status := rfl
@[simp] theorem compareY_trace (v : Byte) : (compareY v s).trace = s.trace := rfl

@[simp] theorem setC_pc (c : Bool) : (setC c s).pc = s.pc := rfl
@[simp] theorem setC_a (c : Bool) : (setC c s).a = s.a := rfl
@[simp] theorem setC_x (c : Bool) : (setC c s).x = s.x := rfl
@[simp] theorem setC_y (c : Bool) : (setC c s).y = s.y := rfl
@[simp] theorem setC_sp (c : Bool) : (setC c s).sp = s.sp := rfl
@[simp] theorem setC_p (c : Bool) : (setC c s).p = { s.p with c := c } := rfl
@[simp] theorem setC_cyc (c : Bool) : (setC c s).cyc = s.cyc := rfl
@[simp] theorem setC_wram (c : Bool) : (setC c s).wram = s.wram := rfl
@[simp] theorem setC_prg (c : Bool) : (setC c s).prg = s.prg := rfl
@[simp] theorem setC_params (c : Bool) : (setC c s).params = s.params := rfl
@[simp] theorem setC_busHistory (c : Bool) : (setC c s).busHistory = s.busHistory := rfl
@[simp] theorem setC_ppuChoice (c : Bool) : (setC c s).ppuChoice = s.ppuChoice := rfl
@[simp] theorem setC_breakpoints (c : Bool) : (setC c s).breakpoints = s.breakpoints := rfl
@[simp] theorem setC_watchpoints (c : Bool) : (setC c s).watchpoints = s.watchpoints := rfl
@[simp] theorem setC_watchHit (c : Bool) : (setC c s).watchHit = s.watchHit := rfl
@[simp] theorem setC_status (c : Bool) : (setC c s).status = s.status := rfl
@[simp] theorem setC_trace (c : Bool) : (setC c s).trace = s.trace := rfl

@[simp] theorem setCNZ_pc (r : Byte) (c : Bool) : (setCNZ r c s).pc = s.pc := rfl
@[simp] theorem setCNZ_a (r : Byte) (c : Bool) : (setCNZ r c s).a = s.a := rfl
@[simp] theorem setCNZ_x (r : Byte) (c : Bool) : (setCNZ r c s).x = s.x := rfl
@[simp] theorem setCNZ_y (r : Byte) (c : Bool) : (setCNZ r c s).y = s.y := rfl
@[simp] theorem setCNZ_sp (r : Byte) (c : Bool) : (setCNZ r c s).sp = s.sp := rfl
@[simp] theorem setCNZ_p (r : Byte) (c : Bool) : (setCNZ r c s).p = { s.p with c := c }.setNZ r := rfl
@[simp] theorem setCNZ_cyc (r : Byte) (c : Bool) : (setCNZ r c s).cyc = s.cyc := rfl
@[simp] theorem setCNZ_wram (r : Byte) (c : Bool) : (setCNZ r c s).wram = s.wram := rfl
@[simp] theorem setCNZ_prg (r : Byte) (c : Bool) : (setCNZ r c s).prg = s.prg := rfl
@[simp] theorem setCNZ_params (r : Byte) (c : Bool) : (setCNZ r c s).params = s.params := rfl
@[simp] theorem setCNZ_busHistory (r : Byte) (c : Bool) : (setCNZ r c s).busHistory = s.busHistory := rfl
@[simp] theorem setCNZ_ppuChoice (r : Byte) (c : Bool) : (setCNZ r c s).ppuChoice = s.ppuChoice := rfl
@[simp] theorem setCNZ_breakpoints (r : Byte) (c : Bool) : (setCNZ r c s).breakpoints = s.breakpoints := rfl
@[simp] theorem setCNZ_watchpoints (r : Byte) (c : Bool) : (setCNZ r c s).watchpoints = s.watchpoints := rfl
@[simp] theorem setCNZ_watchHit (r : Byte) (c : Bool) : (setCNZ r c s).watchHit = s.watchHit := rfl
@[simp] theorem setCNZ_status (r : Byte) (c : Bool) : (setCNZ r c s).status = s.status := rfl
@[simp] theorem setCNZ_trace (r : Byte) (c : Bool) : (setCNZ r c s).trace = s.trace := rfl

end Sys2Proof.Machine
end

