-- ==== Sys2Proof/Laws/Bus.lean ====
section
/-! SUPPORT. The laws of the bus: what each region answers, when an access completes, and what it can change. -/

namespace Sys2Proof.Machine

/-! ### Regions -/

section
variable {a : Addr}

theorem region_wram (h : a.toNat < 0x2000) : region a = .wram := by simp [region, h]

theorem region_ppu (h : 0x2000 ≤ a.toNat) (h' : a.toNat < 0x4000) : region a = .ppu := by
  simp [region, h', Nat.not_lt.mpr h]

theorem region_apu (h : 0x4000 ≤ a.toNat) (h' : a.toNat < 0x4018) : region a = .apu := by
  simp [region, h', show ¬ a.toNat < 0x2000 by omega, show ¬ a.toNat < 0x4000 by omega]

theorem region_prg (h : 0x8000 ≤ a.toNat) : region a = .prg := by
  simp [region, show ¬ a.toNat < 0x2000 by omega, show ¬ a.toNat < 0x4000 by omega,
    show ¬ a.toNat < 0x4018 by omega, show ¬ a.toNat < 0x6000 by omega, show ¬ a.toNat < 0x8000 by omega]

theorem region_fatal (h : 0x4018 ≤ a.toNat) (h' : a.toNat < 0x8000) : region a = .expansion ∨ region a = .sram := by
  by_cases h6 : a.toNat < 0x6000 <;>
    simp [region, h6, h', show ¬ a.toNat < 0x2000 by omega, show ¬ a.toNat < 0x4000 by omega,
      show ¬ a.toNat < 0x4018 by omega]

/-- Every address lies in exactly one of the five ranges that behave differently. -/
theorem region_cases (a : Addr) :
    a.toNat < 0x2000 ∨ (0x2000 ≤ a.toNat ∧ a.toNat < 0x4000) ∨ (0x4000 ≤ a.toNat ∧ a.toNat < 0x4018) ∨
      (0x4018 ≤ a.toNat ∧ a.toNat < 0x8000) ∨ 0x8000 ≤ a.toNat := by omega

end

/-! ### Reads -/

section
variable {a : Addr} {s : State}

theorem busRead_wram (h : a.toNat < 0x2000) : busRead a s = .ok (s.wram.read (wramIndex a), touch a s) := by
  simp [busRead, region_wram h]

theorem busRead_ppu (h : 0x2000 ≤ a.toNat) (h' : a.toNat < 0x4000) :
    busRead a s = .ok (Config.ppuRead (ppuReg a) s.busHistory s.ppuChoice,
      { logPpu ⟨.read, ppuReg a, Config.ppuRead (ppuReg a) s.busHistory s.ppuChoice⟩ (touch a s) with
        ppuChoice := s.ppuChoice + 1 }) := by
  simp [busRead, region_ppu h h']

theorem busRead_apu (h : 0x4000 ≤ a.toNat) (h' : a.toNat < 0x4018) : busRead a s = .ok (0x00, touch a s) := by
  simp [busRead, region_apu h h']

theorem busRead_fatal (h : 0x4018 ≤ a.toNat) (h' : a.toNat < 0x8000) :
    busRead a s = .error (.unmappedAccess a s.pc) := by
  rcases region_fatal h h' with hr | hr <;> simp [busRead, hr]

theorem busRead_prg (h : 0x8000 ≤ a.toNat) : busRead a s = .ok (s.prg.read (prgIndex s a), touch a s) := by
  simp [busRead, region_prg h]

/-- A read of a mapped address completes. -/
theorem busRead_completes (h : a.toNat < 0x4018 ∨ 0x8000 ≤ a.toNat) : ∃ v t, busRead a s = .ok (v, t) := by
  rcases region_cases a with h1 | ⟨h1, h2⟩ | ⟨h1, h2⟩ | ⟨h1, h2⟩ | h1
  · exact ⟨_, _, busRead_wram h1⟩
  · exact ⟨_, _, busRead_ppu h1 h2⟩
  · exact ⟨_, _, busRead_apu h1 h2⟩
  · omega
  · exact ⟨_, _, busRead_prg h1⟩

/-- A read faults only in 0x4018-0x7FFF. -/
theorem busRead_error {f : Fault} (h : busRead a s = .error f) :
    0x4018 ≤ a.toNat ∧ a.toNat < 0x8000 ∧ f = .unmappedAccess a s.pc := by
  rcases region_cases a with h1 | ⟨h1, h2⟩ | ⟨h1, h2⟩ | ⟨h1, h2⟩ | h1
  · simp [busRead_wram h1] at h
  · simp [busRead_ppu h1 h2] at h
  · simp [busRead_apu h1 h2] at h
  · rw [busRead_fatal h1 h2] at h; exact ⟨h1, h2, by injection h with h; exact h.symm⟩
  · simp [busRead_prg h1] at h

/-- A completed read was of a mapped address. -/
theorem busRead_mapped {v : Byte} {t : State} (h : busRead a s = .ok (v, t)) : a.toNat < 0x4018 ∨ 0x8000 ≤ a.toNat := by
  rcases region_cases a with h1 | ⟨h1, h2⟩ | ⟨h1, h2⟩ | ⟨h1, h2⟩ | h1
  any_goals omega
  simp [busRead_fatal h1 h2] at h

end

/-! ### What an access can change -/

/-- The fields a bus access may touch, and how: WRAM, watchHit, and the PPU history with its draw count. -/
structure BusFrame (s t : State) : Prop where
  same    : t = { s with wram := t.wram, watchHit := t.watchHit, busHistory := t.busHistory, ppuChoice := t.ppuChoice }
  hit     : s.watchHit = true → t.watchHit = true
  history : ∃ es, t.busHistory = s.busHistory ++ es ∧ t.ppuChoice = s.ppuChoice + drawsIn es

theorem drawsIn_append (h es : List BusEvent) : drawsIn (h ++ es) = drawsIn h + drawsIn es := by
  simp [drawsIn]

theorem BusFrame.refl (s : State) : BusFrame s s := ⟨rfl, id, [], by simp, by simp [drawsIn]⟩

theorem BusFrame.trans {s t u : State} (h : BusFrame s t) (k : BusFrame t u) : BusFrame s u where
  same := by rw [k.same, h.same]
  hit := k.hit ∘ h.hit
  history := by
    obtain ⟨es, h1, h2⟩ := h.history
    obtain ⟨fs, k1, k2⟩ := k.history
    exact ⟨es ++ fs, by rw [k1, h1, List.append_assoc], by rw [k2, h2, drawsIn_append, Nat.add_assoc]⟩

theorem BusFrame.touch (a : Addr) (s : State) : BusFrame s (touch a s) :=
  ⟨rfl, by simp +contextual, [], by simp, by simp [drawsIn]⟩

theorem BusFrame.zpTouch (z : Byte) (s : State) : BusFrame s (zpTouch z s) :=
  (BusFrame.touch _ s).trans (BusFrame.touch _ _)

theorem BusFrame.read {a : Addr} {s t : State} {v : Byte} (h : busRead a s = .ok (v, t)) :
    BusFrame s t ∧ t.wram = s.wram := by
  rcases region_cases a with h1 | ⟨h1, h2⟩ | ⟨h1, h2⟩ | ⟨h1, h2⟩ | h1
  · rw [busRead_wram h1] at h; injection h with h; injection h with _ h; subst h; exact ⟨.touch a s, rfl⟩
  · rw [busRead_ppu h1 h2] at h; injection h with h; injection h with _ h; subst h
    exact ⟨⟨rfl, by simp +contextual, _, rfl, by simp [drawsIn]⟩, rfl⟩
  · rw [busRead_apu h1 h2] at h; injection h with h; injection h with _ h; subst h; exact ⟨.touch a s, rfl⟩
  · simp [busRead_fatal h1 h2] at h
  · rw [busRead_prg h1] at h; injection h with h; injection h with _ h; subst h; exact ⟨.touch a s, rfl⟩

/-! ### Writes -/

section
variable {a : Addr} {v : Byte} {s : State}

theorem busWrite_wram (h : a.toNat < 0x2000) :
    busWrite a v s = .ok { touch a s with wram := s.wram.write (wramIndex a) v } := by
  simp [busWrite, region_wram h]

theorem busWrite_ppu (h : 0x2000 ≤ a.toNat) (h' : a.toNat < 0x4000) :
    busWrite a v s = .ok (logPpu ⟨.write, ppuReg a, v⟩ (touch a s)) := by
  simp [busWrite, region_ppu h h']

theorem busWrite_apu (h : 0x4000 ≤ a.toNat) (h' : a.toNat < 0x4018) : busWrite a v s = .ok (touch a s) := by
  simp [busWrite, region_apu h h']

theorem busWrite_fatal (h : 0x4018 ≤ a.toNat) (h' : a.toNat < 0x8000) :
    busWrite a v s = .error (.unmappedAccess a s.pc) := by
  rcases region_fatal h h' with hr | hr <;> simp [busWrite, hr]

theorem busWrite_prg_ignore (h : 0x8000 ≤ a.toNat) (hp : s.params.prgWritePolicy = .ignore) :
    busWrite a v s = .ok (touch a s) := by
  simp [busWrite, region_prg h, hp]

theorem busWrite_prg_fault (h : 0x8000 ≤ a.toNat) (hp : s.params.prgWritePolicy = .fault) :
    busWrite a v s = .error (.romWrite a s.pc) := by
  simp [busWrite, region_prg h, hp]

/-- Everything a completed write can be. -/
theorem busWrite_cases {t : State} (h : busWrite a v s = .ok t) :
    (a.toNat < 0x2000 ∧ t = { touch a s with wram := s.wram.write (wramIndex a) v }) ∨
    (0x2000 ≤ a.toNat ∧ a.toNat < 0x4000 ∧ t = logPpu ⟨.write, ppuReg a, v⟩ (touch a s)) ∨
    ((0x4000 ≤ a.toNat ∧ a.toNat < 0x4018 ∨ 0x8000 ≤ a.toNat ∧ s.params.prgWritePolicy = .ignore) ∧ t = touch a s) := by
  rcases region_cases a with h1 | ⟨h1, h2⟩ | ⟨h1, h2⟩ | ⟨h1, h2⟩ | h1
  · rw [busWrite_wram h1] at h; injection h with h; exact .inl ⟨h1, h.symm⟩
  · rw [busWrite_ppu h1 h2] at h; injection h with h; exact .inr (.inl ⟨h1, h2, h.symm⟩)
  · rw [busWrite_apu h1 h2] at h; injection h with h; exact .inr (.inr ⟨.inl ⟨h1, h2⟩, h.symm⟩)
  · simp [busWrite_fatal h1 h2] at h
  · cases hp : s.params.prgWritePolicy with
    | ignore =>
      rw [busWrite_prg_ignore h1 hp] at h; injection h with h
      exact .inr (.inr ⟨.inr ⟨h1, rfl⟩, h.symm⟩)
    | fault => simp [busWrite_prg_fault h1 hp] at h

/-- A write to a writable address completes. -/
theorem busWrite_completes (h : a.toNat < 0x4018 ∨ (0x8000 ≤ a.toNat ∧ s.params.prgWritePolicy = .ignore)) :
    ∃ t, busWrite a v s = .ok t := by
  rcases region_cases a with h1 | ⟨h1, h2⟩ | ⟨h1, h2⟩ | ⟨h1, h2⟩ | h1
  · exact ⟨_, busWrite_wram h1⟩
  · exact ⟨_, busWrite_ppu h1 h2⟩
  · exact ⟨_, busWrite_apu h1 h2⟩
  · omega
  · exact ⟨_, busWrite_prg_ignore h1 (by rcases h with h | h; omega; exact h.2)⟩

/-- A write faults only in 0x4018-0x7FFF, or in PRG under the fault policy. -/
theorem busWrite_error {f : Fault} (h : busWrite a v s = .error f) :
    (0x4018 ≤ a.toNat ∧ a.toNat < 0x8000 ∧ f = .unmappedAccess a s.pc) ∨
    (0x8000 ≤ a.toNat ∧ s.params.prgWritePolicy = .fault ∧ f = .romWrite a s.pc) := by
  rcases region_cases a with h1 | ⟨h1, h2⟩ | ⟨h1, h2⟩ | ⟨h1, h2⟩ | h1
  · simp [busWrite_wram h1] at h
  · simp [busWrite_ppu h1 h2] at h
  · simp [busWrite_apu h1 h2] at h
  · rw [busWrite_fatal h1 h2] at h; injection h with h; exact .inl ⟨h1, h2, h.symm⟩
  · cases hp : s.params.prgWritePolicy with
    | ignore => simp [busWrite_prg_ignore h1 hp] at h
    | fault => rw [busWrite_prg_fault h1 hp] at h; injection h with h; exact .inr ⟨h1, rfl, h.symm⟩

theorem BusFrame.write {t : State} (h : busWrite a v s = .ok t) : BusFrame s t := by
  rcases busWrite_cases h with ⟨_, rfl⟩ | ⟨_, _, rfl⟩ | ⟨_, rfl⟩
  · exact ⟨rfl, by simp +contextual, [], by simp, by simp [drawsIn]⟩
  · exact ⟨rfl, by simp +contextual, _, rfl, by simp [drawsIn]⟩
  · exact .touch a s

/-- A write keeps WRAM canonical. -/
theorem busWrite_wram_wf {t : State} (h : busWrite a v s = .ok t) (hs : s.wram.wf 2048 = true) :
    t.wram.wf 2048 = true := by
  rcases busWrite_cases h with ⟨_, rfl⟩ | ⟨_, _, rfl⟩ | ⟨_, rfl⟩
  · exact Memory.wf_write hs (Nat.mod_lt _ (by decide)) v
  · exact hs
  · exact hs

end

/-! ### Word reads and the stack -/

/-- The zero-page word read is two bus reads, low byte first (R10, R110, R111). -/
theorem readPair_zeroPage (z : Byte) (s : State) :
    readPair (zext16 z) (zext16 (z + 1)) s = .ok (zpWord z s, zpTouch z s) := by
  have hz : ∀ b : Byte, (zext16 b).toNat = b.toNat := fun b => by simp [zext16]; omega
  have hi : ∀ b : Byte, wramIndex (zext16 b) = b.toNat := fun b => by
    have := b.isLt; simp only [wramIndex, hz]; omega
  have hl : ∀ b : Byte, (zext16 b).toNat < 0x2000 := fun b => by have := b.isLt; rw [hz]; omega
  simp [readPair, busRead_wram (hl _), hi, zpWord, zpTouch]

theorem stackAddr_toNat (sp : Byte) : (stackAddr sp).toNat = 0x100 + sp.toNat := by
  have h : ∀ b : Byte, (stackAddr b).toNat = 0x100 + b.toNat := by decide +kernel
  exact h sp

theorem stackAddr_index (sp : Byte) : wramIndex (stackAddr sp) = 0x100 + sp.toNat := by
  have := sp.isLt
  simp only [wramIndex, stackAddr_toNat]; omega

theorem stackAddr_wram (sp : Byte) : (stackAddr sp).toNat < 0x2000 := by
  have := sp.isLt
  rw [stackAddr_toNat]; omega

/-- A push is a bus write at the address SP names, then SP falls (R62). -/
theorem push_eq_busWrite (v : Byte) (s : State) :
    busWrite (stackAddr s.sp) v s = .ok { push v s with sp := s.sp } := by
  rw [busWrite_wram (stackAddr_wram _)]; rfl

/-- A pull is SP rising, then a bus read at the address SP names (R63). -/
theorem pull_eq_busRead (s : State) : busRead (stackAddr (s.sp + 1)) { s with sp := s.sp + 1 } = .ok (pull s) := by
  rw [busRead_wram (stackAddr_wram _)]; rfl

/-- The BRK vector read cannot fault (R252). -/
theorem read16_brkVector (s : State) :
    read16 brkVector s = .ok (word (s.prg.read (prgIndex s 0xFFFE)) (s.prg.read (prgIndex s 0xFFFF)),
      touch 0xFFFF (touch 0xFFFE s)) := by
  have h1 : 0x8000 ≤ (0xFFFE#16).toNat := by decide
  have h2 : 0x8000 ≤ (0xFFFF#16).toNat := by decide
  show readPair 0xFFFE#16 (0xFFFE#16 + 1) s = _
  rw [show (0xFFFE#16 + 1) = 0xFFFF#16 by decide]
  simp [readPair, busRead_prg h1, busRead_prg h2, prgIndex]

end Sys2Proof.Machine
end

