-- ==== Sys2Proof/Laws/Decode.lean ====
section
/-! SUPPORT. The laws of the byte helpers, of the opcode map and of the decoder, form by form. -/

namespace Sys2Proof

/-! ### Byte helpers -/

theorem lo_toNat (w : Addr) : (lo w).toNat = w.toNat % 256 := by simp [lo]

theorem hi_toNat (w : Addr) : (hi w).toNat = w.toNat / 256 := by
  have := w.isLt
  simp only [hi, BitVec.toNat_setWidth, BitVec.toNat_ushiftRight, Nat.shiftRight_eq_div_pow]; omega

theorem word_toNat (l h : Byte) : (word l h).toNat = l.toNat + 256 * h.toNat := by
  have := l.isLt
  rw [word, BitVec.toNat_append, ← Nat.shiftLeft_add_eq_or_of_lt this, Nat.shiftLeft_eq]; omega

@[simp] theorem word_lo_hi (w : Addr) : word (lo w) (hi w) = w := by
  apply BitVec.eq_of_toNat_eq; rw [word_toNat, lo_toNat, hi_toNat]; omega

@[simp] theorem lo_word (l h : Byte) : lo (word l h) = l := by
  have := l.isLt
  apply BitVec.eq_of_toNat_eq; rw [lo_toNat, word_toNat]; omega

@[simp] theorem hi_word (l h : Byte) : hi (word l h) = h := by
  have := l.isLt
  apply BitVec.eq_of_toNat_eq; rw [hi_toNat, word_toNat]; omega

@[simp] theorem zext16_toNat (b : Byte) : (zext16 b).toNat = b.toNat := by
  have := b.isLt
  simp only [zext16, BitVec.toNat_setWidth]; omega

theorem sext16_toInt (b : Byte) : (sext16 b).toInt = b.toInt :=
  BitVec.toInt_signExtend_of_le (by decide)

/-! ### The decoder, by form -/

variable {op : Byte} {rest : List Byte}

theorem decode_fatal (h : opcodeForm op = none) : decode (op :: rest) = .error (.unimplemented op) := by
  simp only [decode, h]

theorem decode_none {i : Instr} (h : opcodeForm op = some (.none i)) : decode (op :: rest) = .ok (i, rest) := by
  simp only [decode, h]

theorem decode_byte {mk : Byte → Instr} (h : opcodeForm op = some (.byte mk)) (b : Byte) :
    decode (op :: b :: rest) = .ok (mk b, rest) := by
  simp only [decode, h]

theorem decode_word {mk : Addr → Instr} (h : opcodeForm op = some (.word mk)) (w : Addr) :
    decode (op :: lo w :: hi w :: rest) = .ok (mk w, rest) := by
  simp only [decode, h, word_lo_hi]

/-- Everything a decoder that accepts can have read. -/
theorem decode_ok {bs rest : List Byte} {i : Instr} (h : decode bs = .ok (i, rest)) :
    ∃ op, (opcodeForm op = some (.none i) ∧ bs = op :: rest) ∨
      (∃ mk b, opcodeForm op = some (.byte mk) ∧ i = mk b ∧ bs = op :: b :: rest) ∨
      (∃ mk l k, opcodeForm op = some (.word mk) ∧ i = mk (word l k) ∧ bs = op :: l :: k :: rest) := by
  match bs, h with
  | op :: bs, h =>
    refine ⟨op, ?_⟩
    cases hf : opcodeForm op with
    | none => simp [decode_fatal hf] at h
    | some f =>
      cases f with
      | none j => rw [decode_none hf] at h; injection h with h; injection h with h1 h2; subst h1 h2; exact .inl ⟨rfl, rfl⟩
      | byte mk =>
        match bs, h with
        | [], h => simp [decode, hf] at h
        | b :: bs, h =>
          rw [decode_byte hf] at h; injection h with h; injection h with h1 h2; subst h1 h2
          exact .inr (.inl ⟨mk, b, rfl, rfl, rfl⟩)
      | word mk =>
        match bs, h with
        | [], h => simp [decode, hf] at h
        | [_], h => simp [decode, hf] at h
        | l :: k :: bs, h =>
          simp only [decode, hf] at h; injection h with h; injection h with h1 h2; subst h1 h2
          exact .inr (.inr ⟨mk, l, k, rfl, rfl, rfl⟩)

/-! ### The opcode map against the opcode table -/

/-- The 29 opcode values without a table entry (R84). -/
def fatalOpcodes : List Byte :=
  [0x02, 0x0B, 0x12, 0x22, 0x2B, 0x32, 0x42, 0x4B, 0x52, 0x62, 0x6B, 0x72, 0x82, 0x89, 0x8B] ++
  [0x92, 0x93, 0x9B, 0x9C, 0x9E, 0x9F, 0xAB, 0xB2, 0xBB, 0xC2, 0xCB, 0xD2, 0xE2, 0xF2]

/-- The map's entry for an opcode and the table's rows of that opcode say the same. -/
def entryAgrees (op : Byte) : Option Form → Prop
  | .none => op ∈ fatalOpcodes
  | some (.none i) => encode i = [op]
  | some (.byte mk) => ∀ b, encode (mk b) = [op, b]
  | some (.word mk) => ∀ w, encode (mk w) = [op, lo w, hi w]

theorem opcodeForm_agrees (op : Byte) : entryAgrees op (opcodeForm op) := by
  have h : ∀ n < 256, entryAgrees (BitVec.ofNat 8 n) (opcodeForm (BitVec.ofNat 8 n)) := by
    intro n hn
    interval_cases n <;> first | exact fun _ => rfl | exact (rfl : _ = [_]) | (show _ ∈ fatalOpcodes; decide)
  simpa using h op.toNat op.isLt

theorem operand_bytes_length (o : Operand) : 1 + o.bytes.length = o.mode.length := by
  cases o with
  | memory m => cases m <;> rfl
  | _ => rfl

/-- The map's entry for the opcode of an instruction is the form of that instruction. -/
theorem opcodeForm_opcode (i : Instr) :
    (opcodeForm i.opcode = some (.none i) ∧ i.operand.bytes = []) ∨
    (∃ mk b, opcodeForm i.opcode = some (.byte mk) ∧ i = mk b ∧ i.operand.bytes = [b]) ∨
    (∃ mk w, opcodeForm i.opcode = some (.word mk) ∧ i = mk w ∧ i.operand.bytes = [lo w, hi w]) := by
  cases i <;> simp only [Instr.opcode, Instr.operand, Instr.row] <;> first
    | exact .inl ⟨rfl, rfl⟩
    | exact .inr (.inl ⟨_, _, rfl, rfl, rfl⟩)
    | exact .inr (.inr ⟨_, _, rfl, rfl, rfl⟩)

end Sys2Proof
end

