-- ==== Sys2Proof/Laws/Exec.lean ====
section
/-! SUPPORT. What an instruction can do, said once: the table-driven reading of `exec` (`exec_of_effect`), so that a claim
about all instructions is a claim about a few shapes, and for each shape what a completed or faulted execution gives. -/

namespace Sys2Proof.Machine

/-- What a mnemonic does, apart from its mode. -/
inductive Effect where
  | read (eff : Byte → State → State)
  | store (value : State → Byte)
  | rmw (op : Byte → Bool → Byte × Bool) (eff : Byte → Bool → State → State)
  | implied (eff : State → State)
  | branch (cond : Flags → Bool)
  | jump
  | call
  | ret
  | trapReturn
  | trap

/-- The effect of each mnemonic. -/
def effectOf : Mnemonic → Effect
  | .lda => .read setA
  | .ldx => .read setX
  | .ldy => .read setY
  | .sta => .store State.a
  | .stx => .store State.x
  | .sty => .store State.y
  | .tax => .implied (fun s => setX s.a s)
  | .tay => .implied (fun s => setY s.a s)
  | .txa => .implied (fun s => setA s.x s)
  | .tya => .implied (fun s => setA s.y s)
  | .tsx => .implied (fun s => setX s.sp s)
  | .txs => .implied (fun s => { s with sp := s.x })
  | .adc => .read addToA
  | .sbc => .read subFromA
  | .and => .read andA
  | .ora => .read orA
  | .eor => .read eorA
  | .bit => .read bitA
  | .cmp => .read compareA
  | .cpx => .read compareX
  | .cpy => .read compareY
  | .inc => .rmw incByte setCNZ
  | .dec => .rmw decByte setCNZ
  | .inx => .implied (fun s => setX (s.x + 1) s)
  | .iny => .implied (fun s => setY (s.y + 1) s)
  | .dex => .implied (fun s => setX (s.x - 1) s)
  | .dey => .implied (fun s => setY (s.y - 1) s)
  | .asl => .rmw shiftLeft setCNZ
  | .lsr => .rmw shiftRight setCNZ
  | .rol => .rmw rotateLeft setCNZ
  | .ror => .rmw rotateRight setCNZ
  | .pha => .implied (fun s => push s.a s)
  | .php => .implied (fun s => push s.p.pushed s)
  | .pla => .implied (fun s => pullToA s)
  | .plp => .implied (fun s => pullToP s)
  | .jmp => .jump
  | .jsr => .call
  | .rts => .ret
  | .rti => .trapReturn
  | .brk => .trap
  | .bcc => .branch (fun p => !p.c)
  | .bcs => .branch (fun p => p.c)
  | .beq => .branch (fun p => p.z)
  | .bne => .branch (fun p => !p.z)
  | .bmi => .branch (fun p => p.n)
  | .bpl => .branch (fun p => !p.n)
  | .bvc => .branch (fun p => !p.v)
  | .bvs => .branch (fun p => p.v)
  | .clc => .implied (fun s => setC false s)
  | .sec => .implied (fun s => setC true s)
  | .cli => .implied (fun s => { s with p := { s.p with i := false } })
  | .sei => .implied (fun s => { s with p := { s.p with i := true } })
  | .cld => .implied (fun s => { s with p := { s.p with d := false } })
  | .sed => .implied (fun s => { s with p := { s.p with d := true } })
  | .clv => .implied (fun s => { s with p := { s.p with v := false } })
  | .nop => .implied (fun s => s)
  | .uNop => .read discard
  | .lax => .read setAX
  | .sax => .store andAX
  | .uSbc => .read subFromA
  | .dcp => .rmw decByte thenCompare
  | .isb => .rmw incByte thenSub
  | .slo => .rmw shiftLeft thenOr
  | .rla => .rmw rotateLeft thenAnd
  | .sre => .rmw shiftRight thenEor
  | .rra => .rmw rotateRight thenAdd

/-- The meaning of an effect in a mode. A memory effect on no memory operand is the unofficial NOP (`read`) or an
accumulator shift (`rmw`). -/
def runEffect (e : Effect) (o : Operand) (base : Nat) (eligible : Bool) (s : State) : Option Result :=
  match e, o with
  | .read eff, .memory m => some (readClass eff m base eligible s)
  | .read eff, .immediate v => some (.next (finish 2 base (eff v s)))
  | .read _, .implied => some (impliedClass id base s)
  | .store value, .memory m => some (storeClass value m base s)
  | .rmw op eff, .memory m => some (rmwClass op eff m base s)
  | .rmw op _, .accumulator => some (impliedClass (shiftA op) base s)
  | .implied eff, .implied => some (impliedClass eff base s)
  | .branch cond, .relative off => some (branchClass cond off base s)
  | .jump, .target w => some (.next (spend base (jumpTo w s)))
  | .jump, .indirect w =>
    some (match indirectTarget w s with
      | .error f => .fault f
      | .ok (t, s) => .next (spend base (jumpTo t s)))
  | .call, .target w => some (.next (spend base (jumpTo w (pushWord (s.pc + 2) s))))
  | .ret, .implied => some (.next (spend base (jumpTo ((pullWord s).1 + 1) (pullWord s).2)))
  | .trapReturn, .implied => some (.next (spend base (returnFromBreak s)))
  | .trap, .implied => some (toResult ((takeBreak s).map (spend base)))
  | _, _ => none

/-- `exec` is the effect of the instruction's mnemonic in its mode, at its row's cost. -/
theorem exec_of_effect (i : Instr) (s : State) :
    runEffect (effectOf i.mnemonic) i.operand i.row.baseCycles i.row.pageCross s = some (exec i s) := by
  cases i <;> rfl

/-! ### Addresses and pointers -/

theorem afterPointer_frame (m : MemMode) (s : State) : BusFrame s (afterPointer m s) := by
  cases m with
  | indexedIndirectX z => exact .zpTouch _ s
  | indirectIndexedY z => exact .zpTouch _ s
  | _ => exact .refl s

@[simp] theorem afterPointer_params (m : MemMode) (s : State) : (afterPointer m s).params = s.params := by
  cases m <;> rfl

@[simp] theorem afterPointer_pc (m : MemMode) (s : State) : (afterPointer m s).pc = s.pc := by
  cases m <;> rfl

@[simp] theorem afterPointer_wram (m : MemMode) (s : State) : (afterPointer m s).wram = s.wram := by
  cases m <;> rfl

theorem readOperand_frame {m : MemMode} {s t : State} {v : Byte} (h : readOperand m s = .ok (v, t)) :
    BusFrame s t ∧ t.wram = s.wram := by
  have k := BusFrame.read h
  exact ⟨(afterPointer_frame m s).trans k.1, by rw [k.2, afterPointer_wram]⟩

/-! ### Completed and faulted shapes -/

theorem readClass_next {eff : Byte → State → State} {m : MemMode} {base : Nat} {el : Bool} {s t : State}
    (h : readClass eff m base el s = .next t) :
    ∃ v u, readOperand m s = .ok (v, u) ∧ t = finish (memLength m) (base + pagePenalty el m s) (eff v u) := by
  unfold readClass at h
  split at h
  · cases h
  · next v u hr => injection h with h; exact ⟨v, u, hr, h.symm⟩

theorem storeClass_next {value : State → Byte} {m : MemMode} {base : Nat} {s t : State}
    (h : storeClass value m base s = .next t) :
    ∃ u, busWrite (effAddress m s) (value s) (afterPointer m s) = .ok u ∧ t = finish (memLength m) base u := by
  unfold storeClass at h
  split at h
  · cases h
  · next u hr => injection h with h; exact ⟨u, hr, h.symm⟩

theorem rmwClass_next {op : Byte → Bool → Byte × Bool} {eff : Byte → Bool → State → State} {m : MemMode} {base : Nat}
    {s t : State} (h : rmwClass op eff m base s = .next t) :
    ∃ v u w, readOperand m s = .ok (v, u) ∧ busWrite (effAddress m s) (op v s.p.c).1 u = .ok w ∧
      t = finish (memLength m) base (eff (op v s.p.c).1 (op v s.p.c).2 w) := by
  unfold rmwClass at h
  split at h
  · cases h
  · next v u hr =>
    split at h
    · cases h
    · next w hw => injection h with h; exact ⟨v, u, w, hr, hw, h.symm⟩

theorem readPair_next {a b : Addr} {s u : State} {t : Addr} (h : readPair a b s = .ok (t, u)) :
    BusFrame s u ∧ u.wram = s.wram ∧
      ∃ l k v, busRead a s = .ok (l, v) ∧ busRead b v = .ok (k, u) ∧ t = word l k := by
  unfold readPair at h
  split at h
  · cases h
  · next l v hl =>
    split at h
    · cases h
    · next k w hk =>
      injection h with h; injection h with h1 h2; subst h2
      have f1 := BusFrame.read hl
      have f2 := BusFrame.read hk
      exact ⟨f1.1.trans f2.1, by rw [f2.2, f1.2], l, k, v, hl, hk, h1.symm⟩

/-- Everything trap entry does. -/
theorem takeBreak_eq (s : State) :
    takeBreak s = .ok { touch 0xFFFF (touch 0xFFFE (push s.p.pushed (pushWord (s.pc + 2) s))) with
      p := { s.p with i := true }
      pc := word (s.prg.read (prgIndex s 0xFFFE)) (s.prg.read (prgIndex s 0xFFFF)) } := by
  unfold takeBreak
  dsimp only
  rw [read16_brkVector]
  rfl

/-- Everything trap return does. -/
theorem returnFromBreak_eq (s : State) :
    returnFromBreak s = { (pullWord (pull s).2).2 with
      p := s.p.restore (pull s).1
      pc := (pullWord (pull s).2).1 } := rfl

end Sys2Proof.Machine
end

