-- ==== Sys2Proof/Laws/Operands.lean ====
section
/-! SUPPORT. The arithmetic of addresses and flags, in numbers: pages, indexed addresses, the status byte, the ALU. -/

namespace Sys2Proof.Machine

/-! ### Pages -/

theorem getElem_highMask (i : Nat) (hi : i < 16) : (0xFF00#16)[i] = decide (8 ≤ i) := by
  revert i; decide

theorem getElem_lowMask (i : Nat) (hi : i < 16) : (0x00FF#16)[i] = decide (i < 8) := by
  revert i; decide

theorem page_toNat (w : Addr) : (w &&& 0xFF00#16).toNat = w.toNat / 256 * 256 := by
  have h : w &&& 0xFF00#16 = (w >>> 8) <<< 8 := by
    ext i hi
    by_cases h8 : 8 ≤ i
    · simp [getElem_highMask, h8, Nat.not_lt.mpr h8, BitVec.getLsbD_eq_getElem hi]
    · simp [getElem_highMask, h8, Nat.lt_of_not_le h8]
  have := w.isLt
  rw [h, BitVec.toNat_shiftLeft, BitVec.toNat_ushiftRight, Nat.shiftRight_eq_div_pow, Nat.shiftLeft_eq]
  omega

/-- A page cross is a change of the high byte (R116). -/
theorem crossed_iff (a b : Addr) : crossed a b = true ↔ a.toNat / 256 ≠ b.toNat / 256 := by
  have h : crossed a b = true ↔ a &&& 0xFF00#16 ≠ b &&& 0xFF00#16 := by simp [crossed]
  rw [h, ne_eq, ← BitVec.toNat_inj, page_toNat, page_toNat]; omega

theorem indirectHigh_wrap (w : Addr) : (indirectHigh w true).toNat = w.toNat / 256 * 256 + (w.toNat + 1) % 256 := by
  have h : ((w + 1) &&& 0x00FF#16).toNat = (w.toNat + 1) % 256 := by
    have : (w + 1) &&& 0x00FF#16 = ((w + 1).setWidth 8).setWidth 16 := by
      ext i hi
      by_cases h8 : i < 8 <;> simp [getElem_lowMask, h8, hi, BitVec.getLsbD_eq_getElem]
    rw [this, BitVec.toNat_setWidth, BitVec.toNat_setWidth, BitVec.toNat_add]; simp; omega
  show ((w &&& 0xFF00#16) ||| ((w + 1) &&& 0x00FF#16)).toNat = _
  rw [BitVec.toNat_or, page_toNat, h, show w.toNat / 256 * 256 = (w.toNat / 256) <<< 8 by simp [Nat.shiftLeft_eq],
    ← Nat.shiftLeft_add_eq_or_of_lt (by omega)]

theorem indirectHigh_noWrap (w : Addr) : indirectHigh w false = w + 1 := rfl

/-! ### Sums -/

theorem add_zext16_toNat (w : Addr) (x : Byte) : (w + zext16 x).toNat = (w.toNat + x.toNat) % 65536 := by
  simp [BitVec.toNat_add]

theorem add_sext16 (w : Addr) (off : Byte) : w + sext16 off = BitVec.ofInt 16 (w.toNat + off.toInt) := by
  apply BitVec.eq_of_toInt_eq
  rw [BitVec.toInt_add, sext16_toInt, BitVec.toInt_ofInt, BitVec.toInt_eq_toNat_bmod w]
  simp

/-! ### The ALU -/

theorem addSum_toNat (a v : Byte) (c : Bool) :
    (addResult a v c).toNat + 256 * (decide (0xFF < addSum a v c)).toNat = addSum a v c := by
  have ha := a.isLt
  have hv := v.isLt
  have hc : c.toNat ≤ 1 := by cases c <;> decide
  have h : addSum a v c < 512 := by unfold addSum; omega
  rw [addResult, BitVec.toNat_ofNat]
  by_cases hs : 0xFF < addSum a v c <;> simp only [hs, decide_true, decide_false, Bool.toNat_true, Bool.toNat_false] <;> omega

/-- The complement of a byte, as a number. -/
theorem not_toNat (v : Byte) : (~~~v).toNat = 255 - v.toNat := by simp [BitVec.toNat_not]

end Sys2Proof.Machine
end

