-- ==== Sys2Proof/Laws/PerInstr.lean ====
section
/-! SUPPORT. One statement about every instruction as syntax, one lemma per constructor: its encoding is as long as its
mode says (R80). -/

namespace Sys2Proof.Laws.EncodedLength

/-- The encoding of an instruction is as long as its mode says. -/
def Statement (i : Instr) : Prop := (encode i).length = i.length

theorem brk : Statement .brk := rfl
theorem oraIndX (z : Byte) : Statement (.oraIndX z) := rfl
theorem sloIndX (z : Byte) : Statement (.sloIndX z) := rfl
theorem uNopZp04 (z : Byte) : Statement (.uNopZp04 z) := rfl
theorem oraZp (z : Byte) : Statement (.oraZp z) := rfl
theorem aslZp (z : Byte) : Statement (.aslZp z) := rfl
theorem sloZp (z : Byte) : Statement (.sloZp z) := rfl
theorem php : Statement .php := rfl
theorem oraImm (v : Byte) : Statement (.oraImm v) := rfl
theorem aslAcc : Statement .aslAcc := rfl
theorem uNopAbs0C (w : Addr) : Statement (.uNopAbs0C w) := rfl
theorem oraAbs (w : Addr) : Statement (.oraAbs w) := rfl
theorem aslAbs (w : Addr) : Statement (.aslAbs w) := rfl
theorem sloAbs (w : Addr) : Statement (.sloAbs w) := rfl
theorem bpl (off : Byte) : Statement (.bpl off) := rfl
theorem oraIndY (z : Byte) : Statement (.oraIndY z) := rfl
theorem sloIndY (z : Byte) : Statement (.sloIndY z) := rfl
theorem uNopZpX14 (z : Byte) : Statement (.uNopZpX14 z) := rfl
theorem oraZpX (z : Byte) : Statement (.oraZpX z) := rfl
theorem aslZpX (z : Byte) : Statement (.aslZpX z) := rfl
theorem sloZpX (z : Byte) : Statement (.sloZpX z) := rfl
theorem clc : Statement .clc := rfl
theorem oraAbsY (w : Addr) : Statement (.oraAbsY w) := rfl
theorem uNop1A : Statement .uNop1A := rfl
theorem sloAbsY (w : Addr) : Statement (.sloAbsY w) := rfl
theorem uNopAbsX1C (w : Addr) : Statement (.uNopAbsX1C w) := rfl
theorem oraAbsX (w : Addr) : Statement (.oraAbsX w) := rfl
theorem aslAbsX (w : Addr) : Statement (.aslAbsX w) := rfl
theorem sloAbsX (w : Addr) : Statement (.sloAbsX w) := rfl
theorem jsr (w : Addr) : Statement (.jsr w) := rfl
theorem andIndX (z : Byte) : Statement (.andIndX z) := rfl
theorem rlaIndX (z : Byte) : Statement (.rlaIndX z) := rfl
theorem bitZp (z : Byte) : Statement (.bitZp z) := rfl
theorem andZp (z : Byte) : Statement (.andZp z) := rfl
theorem rolZp (z : Byte) : Statement (.rolZp z) := rfl
theorem rlaZp (z : Byte) : Statement (.rlaZp z) := rfl
theorem plp : Statement .plp := rfl
theorem andImm (v : Byte) : Statement (.andImm v) := rfl
theorem rolAcc : Statement .rolAcc := rfl
theorem bitAbs (w : Addr) : Statement (.bitAbs w) := rfl
theorem andAbs (w : Addr) : Statement (.andAbs w) := rfl
theorem rolAbs (w : Addr) : Statement (.rolAbs w) := rfl
theorem rlaAbs (w : Addr) : Statement (.rlaAbs w) := rfl
theorem bmi (off : Byte) : Statement (.bmi off) := rfl
theorem andIndY (z : Byte) : Statement (.andIndY z) := rfl
theorem rlaIndY (z : Byte) : Statement (.rlaIndY z) := rfl
theorem uNopZpX34 (z : Byte) : Statement (.uNopZpX34 z) := rfl
theorem andZpX (z : Byte) : Statement (.andZpX z) := rfl
theorem rolZpX (z : Byte) : Statement (.rolZpX z) := rfl
theorem rlaZpX (z : Byte) : Statement (.rlaZpX z) := rfl
theorem sec : Statement .sec := rfl
theorem andAbsY (w : Addr) : Statement (.andAbsY w) := rfl
theorem uNop3A : Statement .uNop3A := rfl
theorem rlaAbsY (w : Addr) : Statement (.rlaAbsY w) := rfl
theorem uNopAbsX3C (w : Addr) : Statement (.uNopAbsX3C w) := rfl
theorem andAbsX (w : Addr) : Statement (.andAbsX w) := rfl
theorem rolAbsX (w : Addr) : Statement (.rolAbsX w) := rfl
theorem rlaAbsX (w : Addr) : Statement (.rlaAbsX w) := rfl
theorem rti : Statement .rti := rfl
theorem eorIndX (z : Byte) : Statement (.eorIndX z) := rfl
theorem sreIndX (z : Byte) : Statement (.sreIndX z) := rfl
theorem uNopZp44 (z : Byte) : Statement (.uNopZp44 z) := rfl
theorem eorZp (z : Byte) : Statement (.eorZp z) := rfl
theorem lsrZp (z : Byte) : Statement (.lsrZp z) := rfl
theorem sreZp (z : Byte) : Statement (.sreZp z) := rfl
theorem pha : Statement .pha := rfl
theorem eorImm (v : Byte) : Statement (.eorImm v) := rfl
theorem lsrAcc : Statement .lsrAcc := rfl
theorem jmpAbs (w : Addr) : Statement (.jmpAbs w) := rfl
theorem eorAbs (w : Addr) : Statement (.eorAbs w) := rfl
theorem lsrAbs (w : Addr) : Statement (.lsrAbs w) := rfl
theorem sreAbs (w : Addr) : Statement (.sreAbs w) := rfl
theorem bvc (off : Byte) : Statement (.bvc off) := rfl
theorem eorIndY (z : Byte) : Statement (.eorIndY z) := rfl
theorem sreIndY (z : Byte) : Statement (.sreIndY z) := rfl
theorem uNopZpX54 (z : Byte) : Statement (.uNopZpX54 z) := rfl
theorem eorZpX (z : Byte) : Statement (.eorZpX z) := rfl
theorem lsrZpX (z : Byte) : Statement (.lsrZpX z) := rfl
theorem sreZpX (z : Byte) : Statement (.sreZpX z) := rfl
theorem cli : Statement .cli := rfl
theorem eorAbsY (w : Addr) : Statement (.eorAbsY w) := rfl
theorem uNop5A : Statement .uNop5A := rfl
theorem sreAbsY (w : Addr) : Statement (.sreAbsY w) := rfl
theorem uNopAbsX5C (w : Addr) : Statement (.uNopAbsX5C w) := rfl
theorem eorAbsX (w : Addr) : Statement (.eorAbsX w) := rfl
theorem lsrAbsX (w : Addr) : Statement (.lsrAbsX w) := rfl
theorem sreAbsX (w : Addr) : Statement (.sreAbsX w) := rfl
theorem rts : Statement .rts := rfl
theorem adcIndX (z : Byte) : Statement (.adcIndX z) := rfl
theorem rraIndX (z : Byte) : Statement (.rraIndX z) := rfl
theorem uNopZp64 (z : Byte) : Statement (.uNopZp64 z) := rfl
theorem adcZp (z : Byte) : Statement (.adcZp z) := rfl
theorem rorZp (z : Byte) : Statement (.rorZp z) := rfl
theorem rraZp (z : Byte) : Statement (.rraZp z) := rfl
theorem pla : Statement .pla := rfl
theorem adcImm (v : Byte) : Statement (.adcImm v) := rfl
theorem rorAcc : Statement .rorAcc := rfl
theorem jmpInd (w : Addr) : Statement (.jmpInd w) := rfl
theorem adcAbs (w : Addr) : Statement (.adcAbs w) := rfl
theorem rorAbs (w : Addr) : Statement (.rorAbs w) := rfl
theorem rraAbs (w : Addr) : Statement (.rraAbs w) := rfl
theorem bvs (off : Byte) : Statement (.bvs off) := rfl
theorem adcIndY (z : Byte) : Statement (.adcIndY z) := rfl
theorem rraIndY (z : Byte) : Statement (.rraIndY z) := rfl
theorem uNopZpX74 (z : Byte) : Statement (.uNopZpX74 z) := rfl
theorem adcZpX (z : Byte) : Statement (.adcZpX z) := rfl
theorem rorZpX (z : Byte) : Statement (.rorZpX z) := rfl
theorem rraZpX (z : Byte) : Statement (.rraZpX z) := rfl
theorem sei : Statement .sei := rfl
theorem adcAbsY (w : Addr) : Statement (.adcAbsY w) := rfl
theorem uNop7A : Statement .uNop7A := rfl
theorem rraAbsY (w : Addr) : Statement (.rraAbsY w) := rfl
theorem uNopAbsX7C (w : Addr) : Statement (.uNopAbsX7C w) := rfl
theorem adcAbsX (w : Addr) : Statement (.adcAbsX w) := rfl
theorem rorAbsX (w : Addr) : Statement (.rorAbsX w) := rfl
theorem rraAbsX (w : Addr) : Statement (.rraAbsX w) := rfl
theorem uNopImm80 (v : Byte) : Statement (.uNopImm80 v) := rfl
theorem staIndX (z : Byte) : Statement (.staIndX z) := rfl
theorem saxIndX (z : Byte) : Statement (.saxIndX z) := rfl
theorem styZp (z : Byte) : Statement (.styZp z) := rfl
theorem staZp (z : Byte) : Statement (.staZp z) := rfl
theorem stxZp (z : Byte) : Statement (.stxZp z) := rfl
theorem saxZp (z : Byte) : Statement (.saxZp z) := rfl
theorem dey : Statement .dey := rfl
theorem txa : Statement .txa := rfl
theorem styAbs (w : Addr) : Statement (.styAbs w) := rfl
theorem staAbs (w : Addr) : Statement (.staAbs w) := rfl
theorem stxAbs (w : Addr) : Statement (.stxAbs w) := rfl
theorem saxAbs (w : Addr) : Statement (.saxAbs w) := rfl
theorem bcc (off : Byte) : Statement (.bcc off) := rfl
theorem staIndY (z : Byte) : Statement (.staIndY z) := rfl
theorem styZpX (z : Byte) : Statement (.styZpX z) := rfl
theorem staZpX (z : Byte) : Statement (.staZpX z) := rfl
theorem stxZpY (z : Byte) : Statement (.stxZpY z) := rfl
theorem saxZpY (z : Byte) : Statement (.saxZpY z) := rfl
theorem tya : Statement .tya := rfl
theorem staAbsY (w : Addr) : Statement (.staAbsY w) := rfl
theorem txs : Statement .txs := rfl
theorem staAbsX (w : Addr) : Statement (.staAbsX w) := rfl
theorem ldyImm (v : Byte) : Statement (.ldyImm v) := rfl
theorem ldaIndX (z : Byte) : Statement (.ldaIndX z) := rfl
theorem ldxImm (v : Byte) : Statement (.ldxImm v) := rfl
theorem laxIndX (z : Byte) : Statement (.laxIndX z) := rfl
theorem ldyZp (z : Byte) : Statement (.ldyZp z) := rfl
theorem ldaZp (z : Byte) : Statement (.ldaZp z) := rfl
theorem ldxZp (z : Byte) : Statement (.ldxZp z) := rfl
theorem laxZp (z : Byte) : Statement (.laxZp z) := rfl
theorem tay : Statement .tay := rfl
theorem ldaImm (v : Byte) : Statement (.ldaImm v) := rfl
theorem tax : Statement .tax := rfl
theorem ldyAbs (w : Addr) : Statement (.ldyAbs w) := rfl
theorem ldaAbs (w : Addr) : Statement (.ldaAbs w) := rfl
theorem ldxAbs (w : Addr) : Statement (.ldxAbs w) := rfl
theorem laxAbs (w : Addr) : Statement (.laxAbs w) := rfl
theorem bcs (off : Byte) : Statement (.bcs off) := rfl
theorem ldaIndY (z : Byte) : Statement (.ldaIndY z) := rfl
theorem laxIndY (z : Byte) : Statement (.laxIndY z) := rfl
theorem ldyZpX (z : Byte) : Statement (.ldyZpX z) := rfl
theorem ldaZpX (z : Byte) : Statement (.ldaZpX z) := rfl
theorem ldxZpY (z : Byte) : Statement (.ldxZpY z) := rfl
theorem laxZpY (z : Byte) : Statement (.laxZpY z) := rfl
theorem clv : Statement .clv := rfl
theorem ldaAbsY (w : Addr) : Statement (.ldaAbsY w) := rfl
theorem tsx : Statement .tsx := rfl
theorem ldyAbsX (w : Addr) : Statement (.ldyAbsX w) := rfl
theorem ldaAbsX (w : Addr) : Statement (.ldaAbsX w) := rfl
theorem ldxAbsY (w : Addr) : Statement (.ldxAbsY w) := rfl
theorem laxAbsY (w : Addr) : Statement (.laxAbsY w) := rfl
theorem cpyImm (v : Byte) : Statement (.cpyImm v) := rfl
theorem cmpIndX (z : Byte) : Statement (.cmpIndX z) := rfl
theorem dcpIndX (z : Byte) : Statement (.dcpIndX z) := rfl
theorem cpyZp (z : Byte) : Statement (.cpyZp z) := rfl
theorem cmpZp (z : Byte) : Statement (.cmpZp z) := rfl
theorem decZp (z : Byte) : Statement (.decZp z) := rfl
theorem dcpZp (z : Byte) : Statement (.dcpZp z) := rfl
theorem iny : Statement .iny := rfl
theorem cmpImm (v : Byte) : Statement (.cmpImm v) := rfl
theorem dex : Statement .dex := rfl
theorem cpyAbs (w : Addr) : Statement (.cpyAbs w) := rfl
theorem cmpAbs (w : Addr) : Statement (.cmpAbs w) := rfl
theorem decAbs (w : Addr) : Statement (.decAbs w) := rfl
theorem dcpAbs (w : Addr) : Statement (.dcpAbs w) := rfl
theorem bne (off : Byte) : Statement (.bne off) := rfl
theorem cmpIndY (z : Byte) : Statement (.cmpIndY z) := rfl
theorem dcpIndY (z : Byte) : Statement (.dcpIndY z) := rfl
theorem uNopZpXD4 (z : Byte) : Statement (.uNopZpXD4 z) := rfl
theorem cmpZpX (z : Byte) : Statement (.cmpZpX z) := rfl
theorem decZpX (z : Byte) : Statement (.decZpX z) := rfl
theorem dcpZpX (z : Byte) : Statement (.dcpZpX z) := rfl
theorem cld : Statement .cld := rfl
theorem cmpAbsY (w : Addr) : Statement (.cmpAbsY w) := rfl
theorem uNopDA : Statement .uNopDA := rfl
theorem dcpAbsY (w : Addr) : Statement (.dcpAbsY w) := rfl
theorem uNopAbsXDC (w : Addr) : Statement (.uNopAbsXDC w) := rfl
theorem cmpAbsX (w : Addr) : Statement (.cmpAbsX w) := rfl
theorem decAbsX (w : Addr) : Statement (.decAbsX w) := rfl
theorem dcpAbsX (w : Addr) : Statement (.dcpAbsX w) := rfl
theorem cpxImm (v : Byte) : Statement (.cpxImm v) := rfl
theorem sbcIndX (z : Byte) : Statement (.sbcIndX z) := rfl
theorem isbIndX (z : Byte) : Statement (.isbIndX z) := rfl
theorem cpxZp (z : Byte) : Statement (.cpxZp z) := rfl
theorem sbcZp (z : Byte) : Statement (.sbcZp z) := rfl
theorem incZp (z : Byte) : Statement (.incZp z) := rfl
theorem isbZp (z : Byte) : Statement (.isbZp z) := rfl
theorem inx : Statement .inx := rfl
theorem sbcImm (v : Byte) : Statement (.sbcImm v) := rfl
theorem nop : Statement .nop := rfl
theorem uSbcImm (v : Byte) : Statement (.uSbcImm v) := rfl
theorem cpxAbs (w : Addr) : Statement (.cpxAbs w) := rfl
theorem sbcAbs (w : Addr) : Statement (.sbcAbs w) := rfl
theorem incAbs (w : Addr) : Statement (.incAbs w) := rfl
theorem isbAbs (w : Addr) : Statement (.isbAbs w) := rfl
theorem beq (off : Byte) : Statement (.beq off) := rfl
theorem sbcIndY (z : Byte) : Statement (.sbcIndY z) := rfl
theorem isbIndY (z : Byte) : Statement (.isbIndY z) := rfl
theorem uNopZpXF4 (z : Byte) : Statement (.uNopZpXF4 z) := rfl
theorem sbcZpX (z : Byte) : Statement (.sbcZpX z) := rfl
theorem incZpX (z : Byte) : Statement (.incZpX z) := rfl
theorem isbZpX (z : Byte) : Statement (.isbZpX z) := rfl
theorem sed : Statement .sed := rfl
theorem sbcAbsY (w : Addr) : Statement (.sbcAbsY w) := rfl
theorem uNopFA : Statement .uNopFA := rfl
theorem isbAbsY (w : Addr) : Statement (.isbAbsY w) := rfl
theorem uNopAbsXFC (w : Addr) : Statement (.uNopAbsXFC w) := rfl
theorem sbcAbsX (w : Addr) : Statement (.sbcAbsX w) := rfl
theorem incAbsX (w : Addr) : Statement (.incAbsX w) := rfl
theorem isbAbsX (w : Addr) : Statement (.isbAbsX w) := rfl

end Sys2Proof.Laws.EncodedLength
end

