-- ==== Sys2Proof/Laws/Step.lean ====
section
/-! SUPPORT. The step by run status, and what a completed fetch is. -/

namespace Sys2Proof.Machine

variable {s : State}

theorem step_halted {h : HaltReason} (hs : s.status = .halted h) : step s = .next s := by
  simp only [step, hs]

theorem step_faulted {f : Fault} (hs : s.status = .faulted f) : step s = .fault f := by
  simp only [step, hs]

theorem step_running (hs : s.status = .running) : step s = stepRunning { s with watchHit := false } := by
  cases s; cases hs; rfl

theorem step_breakpoint (hs : s.status = .running) (hb : s.pc ∈ s.breakpoints) :
    step s = .next (fireBreakpoint { s with watchHit := false }) := by
  have : s.breakpoints.contains s.pc = true := by simpa using hb
  rw [step_running hs, stepRunning, if_pos this]

theorem step_execute (hs : s.status = .running) (hb : s.pc ∉ s.breakpoints) :
    step s = (match fetch { s with watchHit := false } with
      | .error f => .fault f
      | .ok f => runFetched { s with watchHit := false } f) :=
  (step_running hs).trans (if_neg (by simpa using hb))

/-- A completed execution of a fetched instruction delivers one line. -/
theorem runFetched_next {f : Fetched} {t : State} (h : runFetched s f = .next t) :
    ∃ u, exec f.instr f.after = .next u ∧ t = deliver (traceLine s f) u := by
  unfold runFetched at h
  split at h
  · next u hu => injection h with h; exact ⟨u, hu, h.symm⟩
  · cases h
  · cases h

/-- A step that executes answers what its instruction answers. -/
theorem step_next {t : State} (hs : s.status = .running) (hb : s.pc ∉ s.breakpoints) (h : step s = .next t) :
    ∃ f u, fetch { s with watchHit := false } = .ok f ∧ exec f.instr f.after = .next u ∧
      t = deliver (traceLine { s with watchHit := false } f) u := by
  rw [step_execute hs hb] at h
  split at h
  · cases h
  · next f hf =>
    obtain ⟨u, hu, ht⟩ := runFetched_next h
    exact ⟨f, u, hf, hu, ht⟩

theorem implementedForm_some {ps : Params} {op : Byte} {form : Form} (h : implementedForm ps op = some form) :
    op ∈ ps.implementedOpcodes ∧ opcodeForm op = some form := by
  unfold implementedForm at h
  split at h
  · next hc => exact ⟨by simpa using hc, h⟩
  · cases h

/-- Everything a completed fetch is: bus reads of the instruction's encoding, which change no more than reads do. -/
theorem fetch_ok {f : Fetched} (h : fetch s = .ok f) :
    BusFrame s f.after ∧ f.after.wram = s.wram ∧ f.bytes = encode f.instr ∧
      f.instr.opcode ∈ s.params.implementedOpcodes := by
  unfold fetch at h
  split at h
  · cases h
  · next op t ht =>
    have h0 := BusFrame.read ht
    split at h
    · cases h
    · next form hf =>
      obtain ⟨hm, hf⟩ := implementedForm_some hf
      have ha := opcodeForm_agrees op
      rw [hf] at ha
      have hop : ∀ i bs, encode i = op :: bs → i.opcode = op := fun i bs h => (List.cons.inj h).1
      cases form with
      | none i =>
        simp only [fetchForm] at h; injection h with h; subst h
        exact ⟨h0.1, h0.2, ha.symm, by rw [hop _ _ ha]; exact hm⟩
      | byte mk =>
        simp only [fetchForm] at h
        split at h
        · cases h
        · next b u hu =>
          have h1 := BusFrame.read hu
          injection h with h; subst h
          exact ⟨h0.1.trans h1.1, h1.2.trans h0.2, (ha b).symm, by rw [hop _ _ (ha b)]; exact hm⟩
      | word mk =>
        simp only [fetchForm] at h
        split at h
        · cases h
        · next b u hu =>
          have h1 := BusFrame.read hu
          split at h
          · cases h
          · next c v hv =>
            have h2 := BusFrame.read hv
            injection h with h; subst h
            have ha := ha (word b c)
            rw [lo_word, hi_word] at ha
            exact ⟨(h0.1.trans h1.1).trans h2.1, (h2.2.trans h1.2).trans h0.2, ha.symm, by rw [hop _ _ ha]; exact hm⟩

end Sys2Proof.Machine
end

