-- ==== Sys2Proof/Laws/Trace.lean ====
section
/-! SUPPORT. What a trace line shows: the operand part of each shape of operand, the free byte filled in once and for
all, and what the golden comparison does with two lines. -/

namespace Sys2Proof.Machine

@[simp] theorem shownByte_some (ea : Addr) (cyc : Nat) (v : Byte) : shownByte ea cyc (some v) = v := rfl

@[simp] theorem TraceOperand.shown_shown (cyc : Nat) (o : TraceOperand) : (o.shown cyc).shown cyc = o.shown cyc := by
  cases o <;> rfl

@[simp] theorem TraceLine.shown_shown (l : TraceLine) : l.shown.shown = l.shown := by
  simp [TraceLine.shown]

/-- Printing does not tell a line from the line with its bytes filled in: lines equal as shown print the same text. -/
theorem operandText_shown (cyc : Nat) (o : TraceOperand) : operandText cyc (o.shown cyc) = operandText cyc o := by
  cases o <;> rfl

theorem lineText_shown (l : TraceLine) : lineText l.shown = lineText l := by
  have h : operandText l.shown.cyc l.shown.operand = operandText l.cyc l.operand := operandText_shown l.cyc l.operand
  simp only [lineText, h]
  rfl

theorem lineText_eq_of_shown {l m : TraceLine} (h : l.shown = m.shown) : lineText l = lineText m := by
  rw [← lineText_shown l, h, lineText_shown]

theorem traceOperand_memory {i : Instr} {m : MemMode} (s : State) (h : i.operand = .memory m) :
    traceOperand i s = traceMemory i.mnemonic m s := by
  simp only [traceOperand, h]

/-- A read-class instruction shows the byte its operand read returns (R277). -/
theorem traceValue_read {mn : Mnemonic} {m : MemMode} {s t : State} {v : Byte} (h : readsOperand mn = true)
    (hr : readOperand m s = .ok (v, t)) : traceValue mn m s = some v := by
  simp only [traceValue, h, hr, if_true]

/-- A store or RMW shows the peek of its effective address (R277). -/
theorem traceValue_peek {mn : Mnemonic} (m : MemMode) (s : State) (h : readsOperand mn = false) :
    traceValue mn m s = peek (effAddress m s) s := by
  simp [traceValue, h]

theorem compareLines_equal {e a : TraceLine} (golden delivered : List TraceLine) (t : State) (h : e.shown = a.shown) :
    compareLines (e :: golden) (a :: delivered) t = (t, golden) := by
  simp only [compareLines, h, if_true]

theorem compareLines_differ {e a : TraceLine} (golden delivered : List TraceLine) (t : State) (h : e.shown ≠ a.shown) :
    compareLines (e :: golden) (a :: delivered) t = ({ t with status := .halted (.goldenMismatch e a) }, golden) := by
  simp only [compareLines, h, if_false]

end Sys2Proof.Machine
end

