-- ==== Sys2Proof/Tests/Slice0.lean ====
section
/-! SUPPORT. Tests: words written out from the opcode map, the vectors of spec/95_test_vectors.md, ill-formed terms, and for
every obligation with hypotheses a state that meets them. Expected values stand in the spec's vector named in the comment. -/

namespace Sys2Proof.Tests

open Sys2Proof.Machine Sys2Proof.Claims

-- One theorem at a time: each of these blocks on the kernel, and a thread for every one of them fills the memory.
set_option Elab.async false

/-! ### Helpers -/

/-- The boot state at 0x0300 with an instruction there. -/
def prog (bytes : List Byte) (s : State := State.reset) : State := placeBytes 0x0300 bytes { s with pc := 0x0300 }

/-- A WRAM byte set. -/
def poke (a : Nat) (v : Byte) (s : State) : State := { s with wram := s.wram.write a v }

/-- Flags from a status byte. -/
def withP (v : Byte) (s : State) : State := { s with p := Flags.decode v }

/-- What one step leaves, if it completes. -/
def after {β : Type} (s : State) (f : State → β) : Option β :=
  match step s with
  | .next t => some (f t)
  | .fault _ | .refused _ => none

/-- The fault of a step. -/
def faultOf (s : State) : Option Fault :=
  match step s with
  | .fault f => some f
  | .next _ | .refused _ => none

/-- The text of the one line a step delivers. -/
def lineOf (s : State) : Option String :=
  match step s with
  | .next t => (t.trace.head?).map (fun l => String.ofList (lineText l))
  | .fault _ | .refused _ => none

/-! ### Well-formedness refuses -/

theorem test_illformed_instruction :
    Instr.wellFormed { Params.default with implementedOpcodes := [0xEA] } (.ldaImm 0x00) = false := by decide +kernel

theorem test_illformed_params_fatal_opcode :
    Params.wellFormed { Params.default with implementedOpcodes := [0xEA, 0x02] } = false := by decide +kernel

theorem test_illformed_params_duplicate :
    Params.wellFormed { Params.default with implementedOpcodes := [0xEA, 0xEA] } = false := by decide +kernel

theorem test_default_opcodes_have_entries : Params.default.implementedOpcodes.all hasEntry = true := by decide +kernel

theorem test_illformed_memory_zero_cell : Memory.wf 2048 [(3, 0x00)] = false := by decide +kernel

theorem test_illformed_memory_order : Memory.wf 2048 [(3, 0x01), (3, 0x02)] = false := by decide +kernel

theorem test_illformed_memory_size : Memory.wf 2048 [(2048, 0x01)] = false := by decide +kernel

/-! ### The words of the opcode map, row by row; operand bytes 0x34, 0x12 -/

theorem test_decode_row_0 :
    decodeTableWord 8 0x00 = some .brk ∧
    decodeTableWord 16 0x3401 = some (.oraIndX 0x34) ∧
    decodeTableWord 16 0x3403 = some (.sloIndX 0x34) ∧
    decodeTableWord 16 0x3404 = some (.uNopZp04 0x34) ∧
    decodeTableWord 16 0x3405 = some (.oraZp 0x34) ∧
    decodeTableWord 16 0x3406 = some (.aslZp 0x34) ∧
    decodeTableWord 16 0x3407 = some (.sloZp 0x34) ∧
    decodeTableWord 8 0x08 = some .php ∧
    decodeTableWord 16 0x3409 = some (.oraImm 0x34) ∧
    decodeTableWord 8 0x0A = some .aslAcc ∧
    decodeTableWord 24 0x12340C = some (.uNopAbs0C 0x1234) ∧
    decodeTableWord 24 0x12340D = some (.oraAbs 0x1234) ∧
    decodeTableWord 24 0x12340E = some (.aslAbs 0x1234) ∧
    decodeTableWord 24 0x12340F = some (.sloAbs 0x1234) := by decide +kernel

theorem test_decode_row_1 :
    decodeTableWord 16 0x3410 = some (.bpl 0x34) ∧
    decodeTableWord 16 0x3411 = some (.oraIndY 0x34) ∧
    decodeTableWord 16 0x3413 = some (.sloIndY 0x34) ∧
    decodeTableWord 16 0x3414 = some (.uNopZpX14 0x34) ∧
    decodeTableWord 16 0x3415 = some (.oraZpX 0x34) ∧
    decodeTableWord 16 0x3416 = some (.aslZpX 0x34) ∧
    decodeTableWord 16 0x3417 = some (.sloZpX 0x34) ∧
    decodeTableWord 8 0x18 = some .clc ∧
    decodeTableWord 24 0x123419 = some (.oraAbsY 0x1234) ∧
    decodeTableWord 8 0x1A = some .uNop1A ∧
    decodeTableWord 24 0x12341B = some (.sloAbsY 0x1234) ∧
    decodeTableWord 24 0x12341C = some (.uNopAbsX1C 0x1234) ∧
    decodeTableWord 24 0x12341D = some (.oraAbsX 0x1234) ∧
    decodeTableWord 24 0x12341E = some (.aslAbsX 0x1234) ∧
    decodeTableWord 24 0x12341F = some (.sloAbsX 0x1234) := by decide +kernel

theorem test_decode_row_2 :
    decodeTableWord 24 0x123420 = some (.jsr 0x1234) ∧
    decodeTableWord 16 0x3421 = some (.andIndX 0x34) ∧
    decodeTableWord 16 0x3423 = some (.rlaIndX 0x34) ∧
    decodeTableWord 16 0x3424 = some (.bitZp 0x34) ∧
    decodeTableWord 16 0x3425 = some (.andZp 0x34) ∧
    decodeTableWord 16 0x3426 = some (.rolZp 0x34) ∧
    decodeTableWord 16 0x3427 = some (.rlaZp 0x34) ∧
    decodeTableWord 8 0x28 = some .plp ∧
    decodeTableWord 16 0x3429 = some (.andImm 0x34) ∧
    decodeTableWord 8 0x2A = some .rolAcc ∧
    decodeTableWord 24 0x12342C = some (.bitAbs 0x1234) ∧
    decodeTableWord 24 0x12342D = some (.andAbs 0x1234) ∧
    decodeTableWord 24 0x12342E = some (.rolAbs 0x1234) ∧
    decodeTableWord 24 0x12342F = some (.rlaAbs 0x1234) := by decide +kernel

theorem test_decode_row_3 :
    decodeTableWord 16 0x3430 = some (.bmi 0x34) ∧
    decodeTableWord 16 0x3431 = some (.andIndY 0x34) ∧
    decodeTableWord 16 0x3433 = some (.rlaIndY 0x34) ∧
    decodeTableWord 16 0x3434 = some (.uNopZpX34 0x34) ∧
    decodeTableWord 16 0x3435 = some (.andZpX 0x34) ∧
    decodeTableWord 16 0x3436 = some (.rolZpX 0x34) ∧
    decodeTableWord 16 0x3437 = some (.rlaZpX 0x34) ∧
    decodeTableWord 8 0x38 = some .sec ∧
    decodeTableWord 24 0x123439 = some (.andAbsY 0x1234) ∧
    decodeTableWord 8 0x3A = some .uNop3A ∧
    decodeTableWord 24 0x12343B = some (.rlaAbsY 0x1234) ∧
    decodeTableWord 24 0x12343C = some (.uNopAbsX3C 0x1234) ∧
    decodeTableWord 24 0x12343D = some (.andAbsX 0x1234) ∧
    decodeTableWord 24 0x12343E = some (.rolAbsX 0x1234) ∧
    decodeTableWord 24 0x12343F = some (.rlaAbsX 0x1234) := by decide +kernel

theorem test_decode_row_4 :
    decodeTableWord 8 0x40 = some .rti ∧
    decodeTableWord 16 0x3441 = some (.eorIndX 0x34) ∧
    decodeTableWord 16 0x3443 = some (.sreIndX 0x34) ∧
    decodeTableWord 16 0x3444 = some (.uNopZp44 0x34) ∧
    decodeTableWord 16 0x3445 = some (.eorZp 0x34) ∧
    decodeTableWord 16 0x3446 = some (.lsrZp 0x34) ∧
    decodeTableWord 16 0x3447 = some (.sreZp 0x34) ∧
    decodeTableWord 8 0x48 = some .pha ∧
    decodeTableWord 16 0x3449 = some (.eorImm 0x34) ∧
    decodeTableWord 8 0x4A = some .lsrAcc ∧
    decodeTableWord 24 0x12344C = some (.jmpAbs 0x1234) ∧
    decodeTableWord 24 0x12344D = some (.eorAbs 0x1234) ∧
    decodeTableWord 24 0x12344E = some (.lsrAbs 0x1234) ∧
    decodeTableWord 24 0x12344F = some (.sreAbs 0x1234) := by decide +kernel

theorem test_decode_row_5 :
    decodeTableWord 16 0x3450 = some (.bvc 0x34) ∧
    decodeTableWord 16 0x3451 = some (.eorIndY 0x34) ∧
    decodeTableWord 16 0x3453 = some (.sreIndY 0x34) ∧
    decodeTableWord 16 0x3454 = some (.uNopZpX54 0x34) ∧
    decodeTableWord 16 0x3455 = some (.eorZpX 0x34) ∧
    decodeTableWord 16 0x3456 = some (.lsrZpX 0x34) ∧
    decodeTableWord 16 0x3457 = some (.sreZpX 0x34) ∧
    decodeTableWord 8 0x58 = some .cli ∧
    decodeTableWord 24 0x123459 = some (.eorAbsY 0x1234) ∧
    decodeTableWord 8 0x5A = some .uNop5A ∧
    decodeTableWord 24 0x12345B = some (.sreAbsY 0x1234) ∧
    decodeTableWord 24 0x12345C = some (.uNopAbsX5C 0x1234) ∧
    decodeTableWord 24 0x12345D = some (.eorAbsX 0x1234) ∧
    decodeTableWord 24 0x12345E = some (.lsrAbsX 0x1234) ∧
    decodeTableWord 24 0x12345F = some (.sreAbsX 0x1234) := by decide +kernel

theorem test_decode_row_6 :
    decodeTableWord 8 0x60 = some .rts ∧
    decodeTableWord 16 0x3461 = some (.adcIndX 0x34) ∧
    decodeTableWord 16 0x3463 = some (.rraIndX 0x34) ∧
    decodeTableWord 16 0x3464 = some (.uNopZp64 0x34) ∧
    decodeTableWord 16 0x3465 = some (.adcZp 0x34) ∧
    decodeTableWord 16 0x3466 = some (.rorZp 0x34) ∧
    decodeTableWord 16 0x3467 = some (.rraZp 0x34) ∧
    decodeTableWord 8 0x68 = some .pla ∧
    decodeTableWord 16 0x3469 = some (.adcImm 0x34) ∧
    decodeTableWord 8 0x6A = some .rorAcc ∧
    decodeTableWord 24 0x12346C = some (.jmpInd 0x1234) ∧
    decodeTableWord 24 0x12346D = some (.adcAbs 0x1234) ∧
    decodeTableWord 24 0x12346E = some (.rorAbs 0x1234) ∧
    decodeTableWord 24 0x12346F = some (.rraAbs 0x1234) := by decide +kernel

theorem test_decode_row_7 :
    decodeTableWord 16 0x3470 = some (.bvs 0x34) ∧
    decodeTableWord 16 0x3471 = some (.adcIndY 0x34) ∧
    decodeTableWord 16 0x3473 = some (.rraIndY 0x34) ∧
    decodeTableWord 16 0x3474 = some (.uNopZpX74 0x34) ∧
    decodeTableWord 16 0x3475 = some (.adcZpX 0x34) ∧
    decodeTableWord 16 0x3476 = some (.rorZpX 0x34) ∧
    decodeTableWord 16 0x3477 = some (.rraZpX 0x34) ∧
    decodeTableWord 8 0x78 = some .sei ∧
    decodeTableWord 24 0x123479 = some (.adcAbsY 0x1234) ∧
    decodeTableWord 8 0x7A = some .uNop7A ∧
    decodeTableWord 24 0x12347B = some (.rraAbsY 0x1234) ∧
    decodeTableWord 24 0x12347C = some (.uNopAbsX7C 0x1234) ∧
    decodeTableWord 24 0x12347D = some (.adcAbsX 0x1234) ∧
    decodeTableWord 24 0x12347E = some (.rorAbsX 0x1234) ∧
    decodeTableWord 24 0x12347F = some (.rraAbsX 0x1234) := by decide +kernel

theorem test_decode_row_8 :
    decodeTableWord 16 0x3480 = some (.uNopImm80 0x34) ∧
    decodeTableWord 16 0x3481 = some (.staIndX 0x34) ∧
    decodeTableWord 16 0x3483 = some (.saxIndX 0x34) ∧
    decodeTableWord 16 0x3484 = some (.styZp 0x34) ∧
    decodeTableWord 16 0x3485 = some (.staZp 0x34) ∧
    decodeTableWord 16 0x3486 = some (.stxZp 0x34) ∧
    decodeTableWord 16 0x3487 = some (.saxZp 0x34) ∧
    decodeTableWord 8 0x88 = some .dey ∧
    decodeTableWord 8 0x8A = some .txa ∧
    decodeTableWord 24 0x12348C = some (.styAbs 0x1234) ∧
    decodeTableWord 24 0x12348D = some (.staAbs 0x1234) ∧
    decodeTableWord 24 0x12348E = some (.stxAbs 0x1234) ∧
    decodeTableWord 24 0x12348F = some (.saxAbs 0x1234) := by decide +kernel

theorem test_decode_row_9 :
    decodeTableWord 16 0x3490 = some (.bcc 0x34) ∧
    decodeTableWord 16 0x3491 = some (.staIndY 0x34) ∧
    decodeTableWord 16 0x3494 = some (.styZpX 0x34) ∧
    decodeTableWord 16 0x3495 = some (.staZpX 0x34) ∧
    decodeTableWord 16 0x3496 = some (.stxZpY 0x34) ∧
    decodeTableWord 16 0x3497 = some (.saxZpY 0x34) ∧
    decodeTableWord 8 0x98 = some .tya ∧
    decodeTableWord 24 0x123499 = some (.staAbsY 0x1234) ∧
    decodeTableWord 8 0x9A = some .txs ∧
    decodeTableWord 24 0x12349D = some (.staAbsX 0x1234) := by decide +kernel

theorem test_decode_row_A :
    decodeTableWord 16 0x34A0 = some (.ldyImm 0x34) ∧
    decodeTableWord 16 0x34A1 = some (.ldaIndX 0x34) ∧
    decodeTableWord 16 0x34A2 = some (.ldxImm 0x34) ∧
    decodeTableWord 16 0x34A3 = some (.laxIndX 0x34) ∧
    decodeTableWord 16 0x34A4 = some (.ldyZp 0x34) ∧
    decodeTableWord 16 0x34A5 = some (.ldaZp 0x34) ∧
    decodeTableWord 16 0x34A6 = some (.ldxZp 0x34) ∧
    decodeTableWord 16 0x34A7 = some (.laxZp 0x34) ∧
    decodeTableWord 8 0xA8 = some .tay ∧
    decodeTableWord 16 0x34A9 = some (.ldaImm 0x34) ∧
    decodeTableWord 8 0xAA = some .tax ∧
    decodeTableWord 24 0x1234AC = some (.ldyAbs 0x1234) ∧
    decodeTableWord 24 0x1234AD = some (.ldaAbs 0x1234) ∧
    decodeTableWord 24 0x1234AE = some (.ldxAbs 0x1234) ∧
    decodeTableWord 24 0x1234AF = some (.laxAbs 0x1234) := by decide +kernel

theorem test_decode_row_B :
    decodeTableWord 16 0x34B0 = some (.bcs 0x34) ∧
    decodeTableWord 16 0x34B1 = some (.ldaIndY 0x34) ∧
    decodeTableWord 16 0x34B3 = some (.laxIndY 0x34) ∧
    decodeTableWord 16 0x34B4 = some (.ldyZpX 0x34) ∧
    decodeTableWord 16 0x34B5 = some (.ldaZpX 0x34) ∧
    decodeTableWord 16 0x34B6 = some (.ldxZpY 0x34) ∧
    decodeTableWord 16 0x34B7 = some (.laxZpY 0x34) ∧
    decodeTableWord 8 0xB8 = some .clv ∧
    decodeTableWord 24 0x1234B9 = some (.ldaAbsY 0x1234) ∧
    decodeTableWord 8 0xBA = some .tsx ∧
    decodeTableWord 24 0x1234BC = some (.ldyAbsX 0x1234) ∧
    decodeTableWord 24 0x1234BD = some (.ldaAbsX 0x1234) ∧
    decodeTableWord 24 0x1234BE = some (.ldxAbsY 0x1234) ∧
    decodeTableWord 24 0x1234BF = some (.laxAbsY 0x1234) := by decide +kernel

theorem test_decode_row_C :
    decodeTableWord 16 0x34C0 = some (.cpyImm 0x34) ∧
    decodeTableWord 16 0x34C1 = some (.cmpIndX 0x34) ∧
    decodeTableWord 16 0x34C3 = some (.dcpIndX 0x34) ∧
    decodeTableWord 16 0x34C4 = some (.cpyZp 0x34) ∧
    decodeTableWord 16 0x34C5 = some (.cmpZp 0x34) ∧
    decodeTableWord 16 0x34C6 = some (.decZp 0x34) ∧
    decodeTableWord 16 0x34C7 = some (.dcpZp 0x34) ∧
    decodeTableWord 8 0xC8 = some .iny ∧
    decodeTableWord 16 0x34C9 = some (.cmpImm 0x34) ∧
    decodeTableWord 8 0xCA = some .dex ∧
    decodeTableWord 24 0x1234CC = some (.cpyAbs 0x1234) ∧
    decodeTableWord 24 0x1234CD = some (.cmpAbs 0x1234) ∧
    decodeTableWord 24 0x1234CE = some (.decAbs 0x1234) ∧
    decodeTableWord 24 0x1234CF = some (.dcpAbs 0x1234) := by decide +kernel

theorem test_decode_row_D :
    decodeTableWord 16 0x34D0 = some (.bne 0x34) ∧
    decodeTableWord 16 0x34D1 = some (.cmpIndY 0x34) ∧
    decodeTableWord 16 0x34D3 = some (.dcpIndY 0x34) ∧
    decodeTableWord 16 0x34D4 = some (.uNopZpXD4 0x34) ∧
    decodeTableWord 16 0x34D5 = some (.cmpZpX 0x34) ∧
    decodeTableWord 16 0x34D6 = some (.decZpX 0x34) ∧
    decodeTableWord 16 0x34D7 = some (.dcpZpX 0x34) ∧
    decodeTableWord 8 0xD8 = some .cld ∧
    decodeTableWord 24 0x1234D9 = some (.cmpAbsY 0x1234) ∧
    decodeTableWord 8 0xDA = some .uNopDA ∧
    decodeTableWord 24 0x1234DB = some (.dcpAbsY 0x1234) ∧
    decodeTableWord 24 0x1234DC = some (.uNopAbsXDC 0x1234) ∧
    decodeTableWord 24 0x1234DD = some (.cmpAbsX 0x1234) ∧
    decodeTableWord 24 0x1234DE = some (.decAbsX 0x1234) ∧
    decodeTableWord 24 0x1234DF = some (.dcpAbsX 0x1234) := by decide +kernel

theorem test_decode_row_E :
    decodeTableWord 16 0x34E0 = some (.cpxImm 0x34) ∧
    decodeTableWord 16 0x34E1 = some (.sbcIndX 0x34) ∧
    decodeTableWord 16 0x34E3 = some (.isbIndX 0x34) ∧
    decodeTableWord 16 0x34E4 = some (.cpxZp 0x34) ∧
    decodeTableWord 16 0x34E5 = some (.sbcZp 0x34) ∧
    decodeTableWord 16 0x34E6 = some (.incZp 0x34) ∧
    decodeTableWord 16 0x34E7 = some (.isbZp 0x34) ∧
    decodeTableWord 8 0xE8 = some .inx ∧
    decodeTableWord 16 0x34E9 = some (.sbcImm 0x34) ∧
    decodeTableWord 8 0xEA = some .nop ∧
    decodeTableWord 16 0x34EB = some (.uSbcImm 0x34) ∧
    decodeTableWord 24 0x1234EC = some (.cpxAbs 0x1234) ∧
    decodeTableWord 24 0x1234ED = some (.sbcAbs 0x1234) ∧
    decodeTableWord 24 0x1234EE = some (.incAbs 0x1234) ∧
    decodeTableWord 24 0x1234EF = some (.isbAbs 0x1234) := by decide +kernel

theorem test_decode_row_F :
    decodeTableWord 16 0x34F0 = some (.beq 0x34) ∧
    decodeTableWord 16 0x34F1 = some (.sbcIndY 0x34) ∧
    decodeTableWord 16 0x34F3 = some (.isbIndY 0x34) ∧
    decodeTableWord 16 0x34F4 = some (.uNopZpXF4 0x34) ∧
    decodeTableWord 16 0x34F5 = some (.sbcZpX 0x34) ∧
    decodeTableWord 16 0x34F6 = some (.incZpX 0x34) ∧
    decodeTableWord 16 0x34F7 = some (.isbZpX 0x34) ∧
    decodeTableWord 8 0xF8 = some .sed ∧
    decodeTableWord 24 0x1234F9 = some (.sbcAbsY 0x1234) ∧
    decodeTableWord 8 0xFA = some .uNopFA ∧
    decodeTableWord 24 0x1234FB = some (.isbAbsY 0x1234) ∧
    decodeTableWord 24 0x1234FC = some (.uNopAbsXFC 0x1234) ∧
    decodeTableWord 24 0x1234FD = some (.sbcAbsX 0x1234) ∧
    decodeTableWord 24 0x1234FE = some (.incAbsX 0x1234) ∧
    decodeTableWord 24 0x1234FF = some (.isbAbsX 0x1234) := by decide +kernel

theorem test_decode_fatal : decodeTableWord 8 0x02 = none ∧ decodeTableWord 8 0xAB = none := by decide +kernel

theorem test_reset_runs_first_word :
    after (State.reset.withFetchWord 16 0x80A9) (fun t => (t.a, t.p.encode, t.pc, t.cyc)) =
      some (0x80, 0xA4, 0x0002, 9) := by decide +kernel

/-! ### Vectors of spec/95_test_vectors.md -/

/-- E5, V60. -/
theorem test_lda_imm :
    after (prog [0xA9, 0x00]) (fun t => (t.a, t.p.encode, t.pc, t.cyc)) = some (0x00, 0x26, 0x0302, 9) := by decide +kernel

/-- E6. -/
theorem test_lda_absx_cross :
    after (prog [0xBD, 0xFF, 0x00] (poke 0x100 0x55 { State.reset with x := 0x01 })) (fun t => (t.a, t.cyc)) = some (0x55, 12) := by decide +kernel

/-- E6. -/
theorem test_lda_absx_same_page :
    after (prog [0xBD, 0xFF, 0x00] (poke 0xFF 0x55 State.reset)) (fun t => (t.a, t.cyc)) = some (0x55, 11) := by decide +kernel

/-- V62. -/
theorem test_ldx_keeps_carry :
    after (prog [0xA2, 0x00] (withP 0x27 { State.reset with x := 0x01 })) (fun t => (t.x, t.p.encode)) = some (0x00, 0x27) := by decide +kernel

/-- V63. -/
theorem test_ldy_keeps_v_c :
    after (prog [0xA0, 0x7F] (withP 0xE5 State.reset)) (fun t => (t.y, t.p.encode)) = some (0x7F, 0x65) := by decide +kernel

/-- V31. -/
theorem test_ldx_zpy_wraps :
    after (prog [0xB6, 0xFE] (poke 0x01 0x77 { State.reset with y := 0x03 })) (fun t => (t.x, t.cyc)) = some (0x77, 11) := by decide +kernel

/-- V37. -/
theorem test_lda_indx_wraps :
    after (prog [0xA1, 0xFF] (poke 0x200 0x66 (poke 0x00 0x02 State.reset))) (fun t => (t.a, t.cyc)) = some (0x66, 13) := by decide +kernel

/-- V41. -/
theorem test_lda_indy_cross :
    after (prog [0xB1, 0x10] (poke 0x11 0x02 (poke 0x10 0xF8 (poke 0x308 0x5A { State.reset with y := 0x10 })))) (fun t => (t.a, t.cyc)) = some (0x5A, 13) := by decide +kernel

/-- V35. -/
theorem test_sta_absy_no_penalty :
    after (prog [0x99, 0xFF, 0x00] { State.reset with a := 0x42, y := 0x01 }) (fun t => (t.wram.read 0x100, t.cyc)) = some (0x42, 12) := by decide +kernel

/-- V65. -/
theorem test_stx_abs :
    after (prog [0x8E, 0x00, 0x07] { State.reset with x := 0x55 }) (fun t => (t.wram.read 0x700, t.cyc)) = some (0x55, 11) := by decide +kernel

/-- V66. -/
theorem test_sty_zpx_wraps :
    after (prog [0x94, 0xFF] { State.reset with x := 0x01, y := 0x66 }) (fun t => (t.wram.read 0x00, t.cyc)) = some (0x66, 11) := by decide +kernel

/-- E3. -/
theorem test_sta_mirror :
    after (prog [0x8D, 0x05, 0x18] { State.reset with a := 0x42 }) (fun t => (t.wram.read 0x05)) = some (0x42) := by decide +kernel

/-- V67. -/
theorem test_tax :
    after (prog [0xAA] { State.reset with a := 0xFF }) (fun t => (t.x, t.p.encode)) = some (0xFF, 0xA4) := by decide +kernel

/-- V68. -/
theorem test_tay :
    after (prog [0xA8] { State.reset with y := 0x01 }) (fun t => (t.y, t.p.encode)) = some (0x00, 0x26) := by decide +kernel

/-- V69. -/
theorem test_txa :
    after (prog [0x8A] { State.reset with x := 0x80 }) (fun t => (t.a, t.p.encode)) = some (0x80, 0xA4) := by decide +kernel

/-- V70. -/
theorem test_tya :
    after (prog [0x98] { State.reset with y := 0x01 }) (fun t => (t.a, t.p.encode)) = some (0x01, 0x24) := by decide +kernel

/-- V71. -/
theorem test_tsx :
    after (prog [0xBA]) (fun t => (t.x, t.p.encode)) = some (0xFD, 0xA4) := by decide +kernel

/-- V72. -/
theorem test_txs :
    after (prog [0x9A]) (fun t => (t.sp, t.p.encode)) = some (0x00, 0x24) := by decide +kernel

/-- V80. -/
theorem test_adc_overflow :
    after (prog [0x69, 0x01] { State.reset with a := 0x7F }) (fun t => (t.a, t.p.encode)) = some (0x80, 0xE4) := by decide +kernel

/-- V84. -/
theorem test_adc_decimal_inert :
    after (prog [0x69, 0x01] (withP 0x2C { State.reset with a := 0x09 })) (fun t => (t.a, t.p.encode)) = some (0x0A, 0x2C) := by decide +kernel

/-- V87. -/
theorem test_sbc_overflow :
    after (prog [0xE9, 0xB0] (withP 0x25 { State.reset with a := 0x50 })) (fun t => (t.a, t.p.encode)) = some (0xA0, 0xE4) := by decide +kernel

/-- V88. -/
theorem test_sbc_borrow :
    after (prog [0xE9, 0x05] { State.reset with a := 0x05 }) (fun t => (t.a, t.p.c, t.p.n)) = some (0xFF, false, true) := by decide +kernel

/-- V90. -/
theorem test_and :
    after (prog [0x29, 0x0F] { State.reset with a := 0xF0 }) (fun t => (t.a, t.p.encode)) = some (0x00, 0x26) := by decide +kernel

/-- V91. -/
theorem test_ora :
    after (prog [0x09, 0x00]) (fun t => (t.a, t.p.encode)) = some (0x00, 0x26) := by decide +kernel

/-- V92. -/
theorem test_eor :
    after (prog [0x49, 0x5A] { State.reset with a := 0x5A }) (fun t => (t.a, t.p.encode)) = some (0x00, 0x26) := by decide +kernel

/-- V93. -/
theorem test_bit :
    after (prog [0x24, 0x10] (poke 0x10 0xC0 { State.reset with a := 0x01 })) (fun t => (t.a, t.p.encode, t.cyc)) = some (0x01, 0xE6, 10) := by decide +kernel

/-- V97. -/
theorem test_cmp :
    after (prog [0xC9, 0xFF] { State.reset with a := 0x01 }) (fun t => (t.a, t.p.encode)) = some (0x01, 0x24) := by decide +kernel

/-- V98. -/
theorem test_cpx :
    after (prog [0xE0, 0x10] { State.reset with x := 0x10 }) (fun t => (t.p.encode)) = some (0x27) := by decide +kernel

/-- V99. -/
theorem test_cpy :
    after (prog [0xC0, 0x80]) (fun t => (t.p.encode)) = some (0xA4) := by decide +kernel

/-- V100. -/
theorem test_inc_keeps_carry :
    after (prog [0xE6, 0x10] (poke 0x10 0xFF (withP 0x25 State.reset))) (fun t => (t.wram.read 0x10, t.p.encode, t.cyc)) = some (0x00, 0x27, 12) := by decide +kernel

/-- V105. -/
theorem test_dec_absx_cross :
    after (prog [0xDE, 0xFF, 0x00] (poke 0x100 0x01 { State.reset with x := 0x01 })) (fun t => (t.wram.read 0x100, t.p.z, t.cyc)) = some (0x00, true, 14) := by decide +kernel

/-- V106. -/
theorem test_inc_prg_ignored :
    after (prog [0xEE, 0x00, 0x80] { State.reset with prg := [(0, 0xFF)] }) (fun t => (t.prg, t.p.z, t.cyc)) = some ([(0, 0xFF)], true, 13) := by decide +kernel

/-- V102. -/
theorem test_inx :
    after (prog [0xE8] { State.reset with x := 0xFF }) (fun t => (t.x, t.p.z)) = some (0x00, true) := by decide +kernel

/-- V103. -/
theorem test_dey :
    after (prog [0x88]) (fun t => (t.y, t.p.n)) = some (0xFF, true) := by decide +kernel

/-- V110. -/
theorem test_asl_a :
    after (prog [0x0A] { State.reset with a := 0x80 }) (fun t => (t.a, t.p.encode, t.cyc)) = some (0x00, 0x27, 9) := by decide +kernel

/-- V113. -/
theorem test_lsr_a :
    after (prog [0x4A] { State.reset with a := 0xFF }) (fun t => (t.a, t.p.encode)) = some (0x7F, 0x25) := by decide +kernel

/-- V115. -/
theorem test_rol_a :
    after (prog [0x2A] (withP 0x25 State.reset)) (fun t => (t.a, t.p.encode)) = some (0x01, 0x24) := by decide +kernel

/-- V119. -/
theorem test_ror_zp :
    after (prog [0x66, 0x10] (poke 0x10 0x01 (withP 0x25 State.reset))) (fun t => (t.wram.read 0x10, t.p.encode, t.cyc)) = some (0x80, 0xA5, 12) := by decide +kernel

/-- E15. -/
theorem test_pha_wraps :
    after (prog [0x48] { State.reset with a := 0x42, sp := 0x00 }) (fun t => (t.wram.read 0x100, t.sp, t.cyc)) = some (0x42, 0xFF, 10) := by decide +kernel

/-- V4. -/
theorem test_php :
    after (prog [0x08]) (fun t => (t.wram.read 0x1FD, t.sp, t.p.encode)) = some (0x34, 0xFC, 0x24) := by decide +kernel

/-- V122. -/
theorem test_pla_wraps :
    after (prog [0x68] (poke 0x100 0x80 { State.reset with sp := 0xFF })) (fun t => (t.a, t.sp, t.p.n)) = some (0x80, 0x00, true) := by decide +kernel

/-- V5. -/
theorem test_plp :
    after (prog [0x28] (poke 0x1FE 0xFF State.reset)) (fun t => (t.p.encode, t.sp, t.cyc)) = some (0xEF, 0xFE, 11) := by decide +kernel

/-- V130. -/
theorem test_jmp :
    after (prog [0x4C, 0xF5, 0xC5]) (fun t => (t.pc, t.cyc)) = some (0xC5F5, 10) := by decide +kernel

/-- V43. -/
theorem test_jmp_ind_wraps :
    after (prog [0x6C, 0xFF, 0x02] (poke 0x2FF 0x30 (poke 0x200 0x80 State.reset))) (fun t => (t.pc, t.cyc)) = some (0x8030, 12) := by decide +kernel

/-- V43 with jmpIndirectPageWrap false. -/
theorem test_jmp_ind_no_wrap :
    after (prog [0x6C, 0xFF, 0x02] (poke 0x2FF 0x30 { State.reset with params := { Params.default with jmpIndirectPageWrap := false } })) (fun t => (t.pc)) = some (0x6C30) := by decide +kernel

/-- V133. -/
theorem test_jsr :
    after (placeBytes 0x0400 [0x20, 0x00, 0x05] { State.reset with pc := 0x0400, sp := 0x01 }) (fun t => (t.wram.read 0x101, t.wram.read 0x100, t.sp, t.pc, t.cyc)) = some (0x04, 0x02, 0xFF, 0x0500, 13) := by decide +kernel

/-- V134. -/
theorem test_rts_wraps :
    after (prog [0x60] (poke 0x1FF 0xFF (poke 0x100 0xFF { State.reset with sp := 0xFE }))) (fun t => (t.pc, t.sp, t.cyc)) = some (0x0000, 0x00, 13) := by decide +kernel

/-- V135. -/
theorem test_brk :
    after (prog [0x00] (withP 0x20 { State.reset with prg := [(0x3FFF, 0x80)] })) (fun t => ((t.wram.read 0x1FD, t.wram.read 0x1FC, t.wram.read 0x1FB), t.sp, t.p.encode, t.pc, t.cyc)) = some ((0x03, 0x02, 0x30), 0xFA, 0x24, 0x8000, 14) := by decide +kernel

/-- V137. -/
theorem test_rti :
    after (prog [0x40] (poke 0x1FB 0xFF (poke 0x1FD 0x90 { State.reset with sp := 0xFA }))) (fun t => (t.p.encode, t.pc, t.sp, t.cyc)) = some (0xEF, 0x9000, 0xFD, 13) := by decide +kernel

/-- V45. -/
theorem test_bcc_taken :
    after (prog [0x90, 0x00]) (fun t => (t.pc, t.cyc)) = some (0x0302, 10) := by decide +kernel

/-- V47. -/
theorem test_bcs_back :
    after (prog [0xB0, 0xFE] (withP 0x25 State.reset)) (fun t => (t.pc, t.cyc)) = some (0x0300, 10) := by decide +kernel

/-- V49. -/
theorem test_beq_wraps_16 :
    after ({ placeBytes 0xFFF0 [0xF0, 0x10] State.reset with pc := 0xFFF0, p := Flags.decode 0x26 }) (fun t => (t.pc, t.cyc)) = some (0x0002, 11) := by decide +kernel

/-- V138. -/
theorem test_bne_not_taken :
    after (prog [0xD0, 0x05] (withP 0x26 State.reset)) (fun t => (t.pc, t.cyc)) = some (0x0302, 9) := by decide +kernel

/-- V140 at 0x0300. -/
theorem test_bmi :
    after (prog [0x30, 0x0C] (withP 0xA4 State.reset)) (fun t => (t.pc, t.cyc)) = some (0x030E, 10) := by decide +kernel

/-- V48. -/
theorem test_bpl_cross :
    after (prog [0x10, 0x80]) (fun t => (t.pc, t.cyc)) = some (0x0282, 11) := by decide +kernel

/-- R213. -/
theorem test_bvc :
    after (prog [0x50, 0x05] (withP 0x64 State.reset)) (fun t => (t.pc, t.cyc)) = some (0x0302, 9) := by decide +kernel

/-- V139. -/
theorem test_bvs :
    after (prog [0x70, 0x05]) (fun t => (t.pc, t.cyc)) = some (0x0302, 9) := by decide +kernel

/-- V150 to V156. -/
theorem test_sec :
    after (prog [0x38] (withP 0x24 State.reset)) (fun t => (t.p.encode, t.cyc)) = some (0x25, 9) := by decide +kernel

/-- V150 to V156. -/
theorem test_clc :
    after (prog [0x18] (withP 0x25 State.reset)) (fun t => (t.p.encode, t.cyc)) = some (0x24, 9) := by decide +kernel

/-- V150 to V156. -/
theorem test_cli :
    after (prog [0x58] (withP 0x24 State.reset)) (fun t => (t.p.encode, t.cyc)) = some (0x20, 9) := by decide +kernel

/-- V150 to V156. -/
theorem test_sei :
    after (prog [0x78] (withP 0x20 State.reset)) (fun t => (t.p.encode, t.cyc)) = some (0x24, 9) := by decide +kernel

/-- V150 to V156. -/
theorem test_sed :
    after (prog [0xF8] (withP 0x24 State.reset)) (fun t => (t.p.encode, t.cyc)) = some (0x2C, 9) := by decide +kernel

/-- V150 to V156. -/
theorem test_cld :
    after (prog [0xD8] (withP 0x2C State.reset)) (fun t => (t.p.encode, t.cyc)) = some (0x24, 9) := by decide +kernel

/-- V150 to V156. -/
theorem test_clv :
    after (prog [0xB8] (withP 0x64 State.reset)) (fun t => (t.p.encode, t.cyc)) = some (0x24, 9) := by decide +kernel

/-- V157. -/
theorem test_nop :
    after (prog [0xEA]) (fun t => (t.pc, t.p.encode, t.cyc)) = some (0x0301, 0x24, 9) := by decide +kernel

/-- V160. -/
theorem test_unop_absx_penalty :
    after (prog [0x1C, 0xFF, 0x00] { State.reset with x := 0x01 }) (fun t => (t.pc, t.p.encode, t.cyc)) = some (0x0303, 0x24, 12) := by decide +kernel

/-- V161. -/
theorem test_unop_imm :
    after (prog [0x80, 0x44]) (fun t => (t.pc, t.cyc)) = some (0x0302, 9) := by decide +kernel

/-- V163. -/
theorem test_lax_indy :
    after (prog [0xB3, 0x10] (poke 0x10 0xF8 (poke 0x11 0x02 { State.reset with a := 0x01, x := 0x01, y := 0x10 }))) (fun t => (t.a, t.x, t.p.z, t.cyc)) = some (0x00, 0x00, true, 13) := by decide +kernel

/-- V164. -/
theorem test_sax :
    after (prog [0x87, 0x10] { State.reset with a := 0xF0, x := 0x3C }) (fun t => (t.wram.read 0x10, t.p.encode, t.cyc)) = some (0x30, 0x24, 10) := by decide +kernel

/-- V165. -/
theorem test_usbc :
    after (prog [0xEB, 0x01] (withP 0x25 { State.reset with a := 0x40 })) (fun t => (t.a, t.p.c, t.p.v)) = some (0x3F, true, false) := by decide +kernel

/-- V172. -/
theorem test_dcp :
    after (prog [0xDF, 0xFF, 0x00] (poke 0x100 0x05 { State.reset with a := 0x04, x := 0x01 })) (fun t => (t.wram.read 0x100, t.p.z, t.p.c, t.cyc)) = some (0x04, true, true, 14) := by decide +kernel

/-- V167. -/
theorem test_isb :
    after (prog [0xE7, 0x20] (poke 0x20 0x0F (withP 0x25 { State.reset with a := 0x10 }))) (fun t => (t.wram.read 0x20, t.a, t.p.z, t.p.c)) = some (0x10, 0x00, true, true) := by decide +kernel

/-- V168. -/
theorem test_slo :
    after (prog [0x07, 0x30] (poke 0x30 0x81 { State.reset with a := 0x01 })) (fun t => (t.wram.read 0x30, t.p.c, t.a)) = some (0x02, true, 0x03) := by decide +kernel

/-- V169. -/
theorem test_rla :
    after (prog [0x27, 0x30] (poke 0x30 0x40 (withP 0x25 { State.reset with a := 0xFF }))) (fun t => (t.wram.read 0x30, t.p.c, t.a, t.p.n)) = some (0x81, false, 0x81, true) := by decide +kernel

/-- V170. -/
theorem test_sre :
    after (prog [0x47, 0x30] (poke 0x30 0x03 { State.reset with a := 0x80 })) (fun t => (t.wram.read 0x30, t.p.c, t.a, t.p.n)) = some (0x01, true, 0x81, true) := by decide +kernel

/-- V171. -/
theorem test_rra :
    after (prog [0x67, 0x30] (poke 0x30 0x03 { State.reset with a := 0x10 })) (fun t => (t.wram.read 0x30, t.a, t.p.c)) = some (0x01, 0x12, false) := by decide +kernel

/-- V181. -/
theorem test_fault_unimplemented :
    faultOf (prog [0xAB]) = some (.unimplementedOpcode 0xAB 0x0300) := by decide +kernel

/-- V182. -/
theorem test_fault_unmapped_store :
    faultOf (prog [0x8D, 0x00, 0x60]) = some (.unmappedAccess 0x6000 0x0300) := by decide +kernel

/-- V183. -/
theorem test_fault_unmapped_load :
    faultOf (prog [0xAD, 0x18, 0x40]) = some (.unmappedAccess 0x4018 0x0300) := by decide +kernel

/-- V184, second step. -/
theorem test_fault_unmapped_fetch :
    faultOf { State.reset with pc := 0x6000 } = some (.unmappedAccess 0x6000 0x6000) := by decide +kernel

/-- V185. -/
theorem test_fault_rom_write :
    faultOf (prog [0xEE, 0x00, 0x80] { State.reset with params := { Params.default with prgWritePolicy := .fault } }) = some (.romWrite 0x8000 0x0300) := by decide +kernel

/-- V14. -/
theorem test_ppu_write_event :
    after (prog [0x8D, 0x06, 0x20] { State.reset with a := 0x12 }) (fun t => (t.busHistory, t.wram.read 0x06)) = some ([⟨.write, 6, 0x12⟩], 0x00) := by decide +kernel

/-- V12, V13. -/
theorem test_ppu_read_mirror :
    (ppuReg 0x3FF8, ppuReg 0x3FFF) = (0, 7) := by decide +kernel

/-- V188, first step. -/
theorem test_breakpoint_once :
    after (addBreakpoint 0x0300 (prog [0x02])) (fun t => (t.status, t.breakpoints, t.cyc, t.trace)) = some (RunStatus.halted (.breakpoint 0x0300), ([] : AddrSet), 7, ([] : List TraceLine)) := by decide +kernel

/-- V190. -/
theorem test_watchpoint_halts :
    after (addWatchpoint 0x0010 (prog [0x85, 0x10] { State.reset with a := 0x07 })) (fun t => (t.wram.read 0x10, t.cyc, decide (t.status = .running), t.watchpoints)) = some (0x07, 10, false, ([0x0010] : AddrSet)) := by decide +kernel

/-- V191. -/
theorem test_watchpoint_unmirrored :
    after (addWatchpoint 0x0810 (prog [0x85, 0x10])) (fun t => (t.status)) = some (RunStatus.running) := by decide +kernel

/-- V194. -/
theorem test_trace_store_shows_value_before :
    lineOf (prog [0x85, 0x10] (poke 0x10 0x7F State.reset)) = some "0300  85 10     STA $10 = 7F                    A:00 X:00 Y:00 P:24 SP:FD CYC:7" := by decide +kernel

/-- V195. -/
theorem test_trace_unofficial :
    lineOf (prog [0xC7, 0x10] (poke 0x10 0x05 { State.reset with a := 0x05 })) = some "0300  C7 10    *DCP $10 = 05                    A:05 X:00 Y:00 P:24 SP:FD CYC:7" := by decide +kernel

/-- E13. -/
theorem test_trace_indx :
    lineOf (prog [0xA1, 0x80] (poke 0x83 0x03 (poke 0x300 0xA1 { State.reset with x := 0x02 }))) = some "0300  A1 80     LDA ($80,X) @ 82 = 0300 = A1    A:00 X:02 Y:00 P:24 SP:FD CYC:7" := by decide +kernel

/-- V197. -/
theorem test_trace_indy :
    lineOf (prog [0xB1, 0x10] (poke 0x10 0xF8 (poke 0x11 0x02 (poke 0x308 0x5A { State.reset with y := 0x10 })))) = some "0300  B1 10     LDA ($10),Y = 02F8 @ 0308 = 5A  A:00 X:00 Y:10 P:24 SP:FD CYC:7" := by decide +kernel

/-! ### Witnesses: each obligation's hypotheses are met, clause by clause at the ends of their ranges -/

/-- The addresses where the bus clauses meet (BusReadsByRegion, ReadForm, StoreForm, RmwForm). -/
theorem witness_regions :
    Mapped 0x0000 ∧ Mapped 0x1FFF ∧ Mapped 0x2000 ∧ Mapped 0x3FFF ∧ Mapped 0x4000 ∧ Mapped 0x4017 ∧ Unmapped 0x4018 ∧
    Unmapped 0x7FFF ∧ Mapped 0x8000 ∧ Mapped 0xFFFF ∧ ¬ Mapped 0x4018 ∧ ¬ Unmapped 0x4017 ∧ ¬ Mapped 0x7FFF ∧
    ¬ Unmapped 0x8000 ∧ region 0x1FFF = .wram ∧ region 0x2000 = .ppu ∧ region 0x3FFF = .ppu ∧ region 0x4000 = .apu ∧
    region 0x4017 = .apu ∧ region 0x4018 = .expansion ∧ region 0x6000 = .sram ∧ region 0x8000 = .prg := by decide +kernel

/-- The parameters under which a store to 0x8000-0xFFFF faults. -/
def faulting : State := { State.reset with params := { Params.default with prgWritePolicy := .fault } }

/-- RomWritesFollowThePolicy, StoreForm, RmwForm: every clause, at its ends. -/
theorem witness_writable :
    Writable State.reset 0x4017 ∧ Writable State.reset 0x8000 ∧ Writable State.reset 0xFFFF ∧ RomFault faulting 0x8000 ∧
    RomFault faulting 0xFFFF ∧ Writable faulting 0x4017 ∧ ¬ Writable faulting 0x8000 ∧ ¬ RomFault State.reset 0x8000 := by
  decide +kernel

/-- ReadForm, StoreForm, RmwForm: an operand for each clause (absolute, and indexed across the edge). -/
theorem witness_operands :
    Mapped (effAddress (.absolute 0x4017) State.reset) ∧ Unmapped (effAddress (.absolute 0x4018) State.reset) ∧
    Unmapped (effAddress (.absoluteX 0x4017) { State.reset with x := 0x01 }) ∧
    Mapped (effAddress (.absoluteY 0x7FFF) { State.reset with y := 0x01 }) ∧
    Unmapped (effAddress (.indirectIndexedY 0x10) (poke 0x11 0x7F (poke 0x10 0xFF State.reset))) ∧
    Mapped (effAddress (.indexedIndirectX 0x10) State.reset) ∧ Mapped (effAddress (.zeroPageX 0xFF) State.reset) ∧
    RomFault faulting (effAddress (.absolute 0x8000) faulting) := by decide +kernel

/-- LengthIsAFunctionOfTheMode: an instruction of each length. -/
theorem witness_modes : Instr.nop.mode = .implied ∧ Instr.aslAcc.mode = .accumulator ∧ (Instr.ldaImm 0).mode = .immediate ∧
    (Instr.bne 0).mode = .relative ∧ (Instr.jmpInd 0).mode = .indirect ∧ (Instr.ldaAbs 0).mode = .absolute := by decide +kernel

/-- EncodeDecodeRoundTrip: bytes that decode, with a rest. -/
theorem witness_decode : decode [0xBD, 0x34, 0x12, 0xEA] = .ok (.ldaAbsX 0x1234, [0xEA]) := rfl

/-- Ready states exist (every step statement). -/
theorem witness_ready (bytes : List Byte) : Ready { State.reset with wram := (prog bytes).wram, pc := 0x0300 } :=
  ⟨rfl, by simp [State.reset]⟩

/-- ExactlyTwentyNineOpcodesAreFatal: a fatal opcode, and one with an entry that the block leaves out. -/
theorem witness_fatal_fetch :
    (∃ t, busRead 0x0300 { prog [0xF2] with watchHit := false } = .ok (0xF2, t)) ∧ instrLength 0xF2 = none ∧
    0xA9 ∉ ({ Params.default with implementedOpcodes := [0xEA] } : Params).implementedOpcodes ∧ instrLength 0xA9 ≠ none :=
  ⟨⟨_, rfl⟩, by decide +kernel, by decide +kernel, by decide +kernel⟩

/-- BootValues: both boot modes. -/
theorem witness_boot :
    (boot ⟨.k16, [(0x3FFD, 0xC0)]⟩ Params.default [] .resetVector).pc = 0xC000 ∧
    (boot ⟨.k32, []⟩ Params.default [] (.fixed 0xC000)).pc = 0xC000 := by decide +kernel

/-- An iNES file with a header and `n` bytes after it. -/
def ines (units chr flags : Byte) (n : Nat) : List Byte :=
  [0x4E, 0x45, 0x53, 0x1A, units, chr, flags, 0, 0, 0, 0, 0, 0, 0, 0, 0] ++ List.replicate n 0xEA

/-- CartridgeLoadRefusesOrYieldsThePrgBytes: E14, V186, V187, and files of exactly the least length and one byte less. -/
theorem witness_cartridge :
    loadCartridge (ines 1 0 0x04 0) = .error .trainerPresent ∧ loadCartridge (ines 0 0 0 0) = .error (.badPrgSize 0) ∧
    loadCartridge (ines 3 0 0 0) = .error (.badPrgSize 3) ∧ (ines 1 0 0 16383).length < 16 + 16384 * 1 + 8192 * 0 ∧
    (ines 1 0 0 16384).length = 16 + 16384 * 1 + 8192 * 0 ∧ (ines 2 1 0 40960).length = 16 + 16384 * 2 + 8192 * 1 := by
  refine ⟨rfl, rfl, rfl, ?_, ?_, ?_⟩ <;> rw [ines, List.length_append, List.length_replicate] <;> decide

/-- JmpBothForms: both pointer reads mapped, the first unmapped, only the second unmapped, with and without the wrap. -/
theorem witness_jmp : Mapped 0x02FF ∧ Mapped (indirectHigh 0x02FF true) ∧ Mapped (indirectHigh 0x02FF false) ∧ Unmapped 0x7FFF ∧
    Mapped 0x4017 ∧ Unmapped (indirectHigh 0x4017 true) ∧ Unmapped (indirectHigh 0x4017 false) ∧
    Mapped (indirectHigh 0xFFFF false) := by decide +kernel

/-- StackPrimitives: SP at both ends. -/
theorem witness_stack : (push 0x42 { State.reset with sp := 0x00 }).sp = 0xFF ∧
    (pull { State.reset with sp := 0xFF }).2.sp = 0x00 ∧ stackAt 0x00 = 0x0100 ∧ stackAt 0xFF = 0x01FF := by decide +kernel

/-- BranchForm, CostAndProgramCounterFollowTheTable: a branch taken and not taken. -/
theorem witness_branch : State.reset.p.c = false ∧ State.reset.p.z = false ∧ State.reset.p.n = false ∧
    State.reset.p.v = false ∧ penalty (.beq 0x7F) State.reset = 0 ∧ penalty (.bne 0x7F) State.reset = 1 ∧
    penalty (.bne 0x80) State.reset = 2 := by decide +kernel

/-- The frame statements: an instruction that completes, a byte it does not store to, and one that writes nothing listed. -/
theorem witness_frames : (∃ t, exec (.staAbs 0x0805) State.reset = .next t) ∧
    (∀ b ∈ storesTo (.staAbs 0x0805) State.reset, ¬ SameStorage 0x0006 b) ∧
    SameStorage 0x0005 0x0805 ∧ ¬ writesA .nop ∧ ¬ writesX .nop ∧ ¬ writesY .nop ∧ ¬ writesSP .nop ∧ ¬ writesNZ .nop ∧
    ¬ writesV .nop ∧ ¬ writesD .nop ∧ ¬ writesI .nop ∧ ¬ writesC .nop ∧ ¬ setsPC .nop := by
  refine ⟨⟨_, rfl⟩, ?_, .inr (by decide), ?_⟩
  · intro b hb h
    rw [show storesTo (.staAbs 0x0805) State.reset = [0x0805] by decide +kernel] at hb
    have hb : b = 0x0805 := by simpa using hb
    subst hb
    rcases h with h | h
    · exact absurd h (by decide)
    · exact absurd h.2.2 (by decide)
  · simp [writesA, writesX, writesY, writesSP, writesNZ, usesSetNZ, writesV, writesD, writesI, writesC, setsPC, Instr.mnemonic,
      Instr.mode, Instr.operand, Instr.row, Operand.mode]

/-- DecimalAndInterruptFlagsGateNothing: ADC writes neither D nor I and is not PHP. -/
theorem witness_decimal : ¬ writesD (.adcImm 0x09) ∧ ¬ writesI (.adcImm 0x09) ∧ (Instr.adcImm 0x09).mnemonic ≠ .php := by
  simp [writesD, writesI, Instr.mnemonic, Instr.row]

/-- StepRunsTheFetchedInstruction: a ready state, the bytes at PC, and what they decode to. -/
theorem witness_step : ∃ t, (Instr.ldaAbs 0x0400).wellFormed (prog [0xAD, 0x00, 0x04]).params = true ∧
    busReads 3 0x0300 { prog [0xAD, 0x00, 0x04] with watchHit := false } = .ok ([0xAD, 0x00, 0x04], t) ∧
    decode [0xAD, 0x00, 0x04] = .ok (.ldaAbs 0x0400, []) := ⟨_, by decide +kernel, rfl, rfl⟩

/-- FetchFaultsOnlyAtAnUnmappedPc: both ends of both clauses; a stub byte is BRK. -/
theorem witness_fetch : faultOf { State.reset with pc := 0x4018 } = some (.unmappedAccess 0x4018 0x4018) ∧
    faultOf { State.reset with pc := 0x7FFF } = some (.unmappedAccess 0x7FFF 0x7FFF) ∧
    after { State.reset with pc := 0x4017 } (fun t => t.trace.map TraceLine.bytes) = some [[0x00]] ∧
    after { State.reset with pc := 0x4016 } (fun t => t.trace.map TraceLine.bytes) = some [[0x00]] := by decide +kernel

/-- BreakpointFiresOnce. -/
theorem witness_breakpoint : (addBreakpoint 0x0300 (prog [0xEA])).status = .running ∧
    (addBreakpoint 0x0300 (prog [0xEA])).pc ∈ (addBreakpoint 0x0300 (prog [0xEA])).breakpoints := by decide +kernel

/-- TraceOperandsShowTheByteBefore: an instruction of each operand, one that reads first and one that does not. -/
theorem witness_trace_operands : Instr.nop.operand = .implied ∧ Instr.aslAcc.operand = .accumulator ∧
    (Instr.ldaImm 0x10).operand = .immediate 0x10 ∧ (Instr.jsr 0x0400).operand = .target 0x0400 ∧
    (Instr.bne 0xFE).operand = .relative 0xFE ∧ (Instr.jmpInd 0x02FF).operand = .indirect 0x02FF ∧
    (Instr.laxIndY 0x10).operand = .memory (.indirectIndexedY 0x10) ∧ (Instr.staIndX 0x10).operand = .memory (.indexedIndirectX 0x10) ∧
    (Instr.laxIndY 0x10).mnemonic = .lax ∧ (Instr.staIndX 0x10).mnemonic = .sta := by decide +kernel

/-- TraceOperandsShowTheByteBefore: reads that complete, of a data byte and of both pointer bytes of JMP indirect. -/
theorem witness_trace_reads :
    (∃ v t, busRead (effAddress (.indirectIndexedY 0x10) State.reset) (afterPointer (.indirectIndexedY 0x10) State.reset) =
      .ok (v, t)) ∧
    ∃ l h t u, busRead 0x02FF State.reset = .ok (l, t) ∧ busRead 0x0200 t = .ok (h, u) := ⟨⟨_, _, rfl⟩, ⟨_, _, _, _, rfl, rfl⟩⟩

/-- The branch target of a trace line: BNE at 0x0300 with the offset -2 goes to itself. -/
theorem test_trace_branch : traceOperand (.bne 0xFE) (prog [0xD0, 0xFE]) = .relative 0x0300 := by decide +kernel

/-- The line of a store to the PPU window shows a free byte (I14). -/
theorem test_trace_unspecified : (traceOperand (.staAbs 0x2000) State.reset).shown 7 =
    .absolute 0x2000 (some (Config.unspecifiedPeek 0x2000 7)) := rfl

/-- HaltedWaitsAndFaultedIsTerminal: a halted, a faulted and a faulting state. -/
theorem witness_statuses : step { State.reset with status := .halted (.breakpoint 0) } =
      .next { State.reset with status := .halted (.breakpoint 0) } ∧
    step { State.reset with status := .faulted .trainerPresent } = .fault .trainerPresent ∧
    step { State.reset with pc := 0x6000 } = .fault (.unmappedAccess 0x6000 0x6000) := ⟨rfl, rfl, rfl⟩

/-- DebugPortSetsAndPeeks: sets in canonical form and a byte that a peek gives. -/
theorem witness_debug : AddrSet.wf [0x0001, 0x0002] = true ∧ AddrSet.wf [0x0002, 0x0001] = false ∧
    peek 0x4017 State.reset = some 0x00 ∧ peek 0x4018 State.reset = none ∧ peek 0x3FFF State.reset = none := by decide +kernel

/-- GoldenLoopHaltsAtTheFirstMismatch, and the statements about a completed ready step: one that delivers one line. -/
theorem witness_golden : ∃ t line, step (prog [0xEA]) = .next t ∧ t.trace = (prog [0xEA]).trace ++ [line] ∧
    (prog [0xEA]).status = .running := ⟨_, _, rfl, rfl, rfl⟩

theorem test_golden_mismatch : ∃ e a, (runGolden 5 [e] (prog [0xEA])).status = .halted (.goldenMismatch e a) ∧ e.shown ≠ a.shown :=
  ⟨⟨0x0300, [0xEA], .nop, .implied, 0, 0, 0, 0x24, 0xFD, 8⟩, ⟨0x0300, [0xEA], .nop, .implied, 0, 0, 0, 0x24, 0xFD, 7⟩,
    by decide +kernel, by decide +kernel⟩

/-- StepKeepsTheInvariant: reset meets the invariant, and steps. -/
theorem witness_invariant : State.reset.Inv ∧ ∃ t, step State.reset = .next t :=
  ⟨⟨rfl, rfl, rfl, rfl, rfl, rfl, by decide, rfl⟩, ⟨_, rfl⟩⟩

/-- BootSatisfiesTheInvariant: a well-formed cartridge and WRAM. -/
theorem witness_boot_memories : Memory.wf BankSize.k16.bytes [(0x3FFD, 0xC0)] = true ∧ Memory.wf 2048 [(0, 1)] = true := by
  decide +kernel

end Sys2Proof.Tests
end

section
/-! PROOFS. The status byte (spec/10_state.md R27 to R29): its value, both round trips, and `RestoreP`. -/

namespace Sys2Proof.Machine

open Sys2Proof.Claims

/-- The claims' number of a carry is the library's. -/
theorem bit_eq_toNat (c : Bool) : bit c = c.toNat := by cases c <;> rfl

section
variable (f : Flags)

/-- The value of the eight appended bits is the sum that R27's layout states. -/
theorem Flags.encode_eq_statusByte : f.encode = statusByte f := by
  have value : f.encode.toNat = 128 * bit f.n + 64 * bit f.v + 32 * bit f.bh + 16 * bit f.bl + 8 * bit f.d +
      4 * bit f.i + 2 * bit f.z + bit f.c := by
    simp only [Flags.encode, BitVec.append_ofBool, BitVec.toNat_concat, BitVec.toNat_ofBool, bit_eq_toNat]
    omega
  rw [statusByte, ← value, BitVec.ofNat_toNat, BitVec.setWidth_eq]

/-- Bit by bit, decode reads the flag that encode appended there (R28). -/
@[simp] theorem Flags.decode_encode : Flags.decode f.encode = f := by
  simp [Flags.decode, Flags.encode, BitVec.append_ofBool, BitVec.getElem_concat]

/-- The update that `RestoreP` makes keeps Bh and Bl (R29). -/
theorem Flags.restore_eq_restored (v : Byte) : f.restore v = restored v f := rfl

end

/-- Two bytes that decode to the same flags are equal, bit by bit. -/
theorem Flags.decode_injective : Function.Injective Flags.decode := by
  intro v w h
  obtain ⟨h7, h6, h5, h4, h3, h2, h1, h0⟩ := Flags.mk.inj h
  refine BitVec.eq_of_getLsbD_eq fun k hk => ?_
  interval_cases k <;> assumption

@[simp] theorem Flags.encode_decode (v : Byte) : (Flags.decode v).encode = v :=
  Flags.decode_injective (Flags.decode_encode _)

/-- Settles O9: the layout is the value of the appended bits, decode undoes encode bit by bit, and the other round trip
follows because decode is injective. -/
theorem statusByteLayoutAndRoundTrip : Obligations.StatusByteLayoutAndRoundTrip :=
  ⟨fun f => ⟨f.encode_eq_statusByte, f.decode_encode⟩, Flags.encode_decode, Flags.restore_eq_restored⟩

end Sys2Proof.Machine
end

section
/-! PROOFS. The boot (spec/70_reset_and_hazards.md R290 to R294): the value of each field, and the PC of both boot modes. -/

namespace Sys2Proof.Machine

open Sys2Proof.Claims

section
variable (cart : Cartridge) (ps : Params) (w : Memory) (b : BootPc)

/-! The boot value of each field but PC is the same for both boot modes (R47). -/

@[simp] theorem boot_a : (boot cart ps w b).a = 0x00 := by cases b <;> rfl
@[simp] theorem boot_x : (boot cart ps w b).x = 0x00 := by cases b <;> rfl
@[simp] theorem boot_y : (boot cart ps w b).y = 0x00 := by cases b <;> rfl
@[simp] theorem boot_sp : (boot cart ps w b).sp = 0xFD := by cases b <;> rfl
@[simp] theorem boot_p : (boot cart ps w b).p = Flags.decode 0x24 := by cases b <;> rfl
@[simp] theorem boot_cyc : (boot cart ps w b).cyc = 7 := by cases b <;> rfl
@[simp] theorem boot_wram : (boot cart ps w b).wram = w := by cases b <;> rfl
@[simp] theorem boot_prg : (boot cart ps w b).prg = cart.prg := by cases b <;> rfl
@[simp] theorem boot_params : (boot cart ps w b).params = { ps with bankSize := cart.bankSize } := by cases b <;> rfl
@[simp] theorem boot_busHistory : (boot cart ps w b).busHistory = [] := by cases b <;> rfl
@[simp] theorem boot_ppuChoice : (boot cart ps w b).ppuChoice = 0 := by cases b <;> rfl
@[simp] theorem boot_breakpoints : (boot cart ps w b).breakpoints = [] := by cases b <;> rfl
@[simp] theorem boot_watchpoints : (boot cart ps w b).watchpoints = [] := by cases b <;> rfl
@[simp] theorem boot_watchHit : (boot cart ps w b).watchHit = false := by cases b <;> rfl
@[simp] theorem boot_status : (boot cart ps w b).status = .running := by cases b <;> rfl
@[simp] theorem boot_trace : (boot cart ps w b).trace = [] := by cases b <;> rfl

/-! PC is the one field that `bootPc` decides (R292). -/

@[simp] theorem boot_fixed_pc (v : Addr) : (boot cart ps w (.fixed v)).pc = v := rfl

theorem boot_resetVector_pc :
    (boot cart ps w .resetVector).pc = resetWord (boot cart ps w .resetVector) := rfl

end

/-- The little-endian word of two bytes is its value (R51). -/
theorem word_eq_ofNat_wordValue (l h : Byte) : word l h = BitVec.ofNat 16 (wordValue l h) := by
  rw [wordValue, ← word_toNat, BitVec.ofNat_toNat, BitVec.setWidth_eq]

/-- The word at the reset vector is what two bus reads answer, low byte first; both are of PRG (R292). -/
theorem busRead_resetVector (s : State) : ∃ l h t u, busRead 0xFFFC s = .ok (l, t) ∧ busRead 0xFFFD t = .ok (h, u) ∧
    resetWord s = BitVec.ofNat 16 (wordValue l h) :=
  ⟨_, _, _, _, busRead_prg (by decide), busRead_prg (by decide), word_eq_ofNat_wordValue _ _⟩

/-- Settles O6: the fields that both boot modes share, then PC by the boot mode. -/
theorem bootValues : Obligations.BootValues := by
  intro cart ps w b s
  have hp : s.p = Flags.decode 0x24 := boot_p ..
  refine ⟨boot_a .., boot_x .., boot_y .., boot_sp .., ?encoded, hp, boot_cyc .., boot_wram .., boot_prg .., boot_params ..,
    boot_breakpoints .., boot_watchpoints .., boot_watchHit .., boot_status .., ?fixed, ?vector⟩
  case encoded => rw [hp, Flags.encode_decode]
  case fixed => rintro v rfl; exact boot_fixed_pc ..
  case vector =>
    rintro rfl
    rw [show s.pc = resetWord s from boot_resetVector_pc ..]
    exact busRead_resetVector s

end Sys2Proof.Machine
end

section
/-! PROOFS. The CPU bus (spec/20_memory.md R50 to R61, R67): the regions in the claims' words, the mirrors of WRAM, the
write policy of PRG. -/

namespace Sys2Proof.Machine

open Sys2Proof.Claims

/-- Membership in the watchpoints decides what R67's detection computes. -/
theorem touch_eq_seen (a : Addr) (s : State) : touch a s = seen a s := by
  rw [touch, seen, List.contains_eq_mem]

/-- The low three bits of an address are its PPU register modulo 8 (R56). -/
theorem ppuReg_eq_ofNat (a : Addr) : ppuReg a = BitVec.ofNat 3 (a.toNat % 8) := by
  apply BitVec.eq_of_toNat_eq
  rw [ppuReg, BitVec.toNat_setWidth, BitVec.toNat_ofNat, Nat.mod_mod]

/-- A read after a write to WRAM sees the byte written exactly where the indices agree, so at every mirror (R55). -/
theorem busRead_wram_after_write (a : Addr) {b : Addr} (v : Byte) (s : State) (h : b.toNat < 0x2000) :
    let t := { touch a s with wram := s.wram.write (wramIndex a) v }
    busRead b t = .ok (if wramIndex a = wramIndex b then v else s.wram.read (wramIndex b), seen b t) := by
  intro t
  rw [busRead_wram h, Memory.read_write, touch_eq_seen]

/-- Settles O14: the write is the WRAM clause of the bus, and a later read meets the array law at the two indices. -/
theorem wramMirrorsAndReadAfterWrite : Obligations.WramMirrorsAndReadAfterWrite := by
  intro s a v ha
  refine ⟨_, busWrite_wram ha, ?_, fun b => busRead_wram_after_write a v s⟩
  rw [← touch_eq_seen]

/-- Settles O12: each clause is the law of the bus for its region, in the words `seen` and `a % 8` of the rules. -/
theorem busReadsByRegion : Obligations.BusReadsByRegion := by
  refine ⟨fun s a => ?reads, fun s a v => ?writes, rfl, rfl⟩
  case reads =>
    rw [← touch_eq_seen, ← ppuReg_eq_ofNat]
    exact ⟨busRead_wram, fun ⟨lower, upper⟩ => busRead_ppu lower upper, fun ⟨lower, upper⟩ => busRead_apu lower upper,
      fun ⟨lower, upper⟩ => busRead_fatal lower upper, busRead_prg⟩
  case writes =>
    rw [← touch_eq_seen, ← ppuReg_eq_ofNat]
    exact ⟨fun ⟨lower, upper⟩ => busWrite_ppu lower upper, fun ⟨lower, upper⟩ => busWrite_apu lower upper,
      fun ⟨lower, upper⟩ => busWrite_fatal lower upper⟩

/-- Settles O13: the two PRG clauses of the bus, one for each policy. -/
theorem romWritesFollowThePolicy : Obligations.RomWritesFollowThePolicy := by
  intro s a v ha
  rw [← touch_eq_seen]
  exact ⟨busWrite_prg_ignore ha, busWrite_prg_fault ha⟩

end Sys2Proof.Machine
end

section
/-! PROOFS. The stack (spec/20_memory.md R62 to R64): its address, and push and pull in the claims' words. -/

namespace Sys2Proof.Machine

open Sys2Proof.Claims

/-- `0x0100 | SP` is a number of page 1 (R24). -/
theorem stackAddr_eq_stackAt (sp : Byte) : stackAddr sp = stackAt sp := by
  rw [stackAt, ← stackAddr_toNat, BitVec.ofNat_toNat, BitVec.setWidth_eq]

/-- SP rises modulo 256 (R63). -/
theorem byte_add_one_eq_ofNat (sp : Byte) : sp + 1 = BitVec.ofNat 8 (sp.toNat + 1) := by bv_omega

/-- SP falls modulo 256 (R62). -/
theorem byte_sub_one_eq_ofNat (sp : Byte) : sp - 1 = BitVec.ofNat 8 (sp.toNat + 255) := by bv_omega

theorem push_eq_pushed (v : Byte) (s : State) : push v s = pushed v s := by
  rw [push, pushed, stackAddr_index, stackAddr_eq_stackAt, touch_eq_seen]

theorem pull_eq_pulled (s : State) : pull s = (stackByte s (s.sp + 1), pulled s) := by
  rw [pull, pulled, stackByte, stackAddr_index, stackAddr_eq_stackAt, touch_eq_seen]

/-- Settles O15: push and pull as bus accesses, then their values, then SP at both ends. -/
theorem stackPrimitives : Obligations.StackPrimitives := by
  intro s v
  refine ⟨⟨{ push v s with sp := s.sp }, ?write, ?fall⟩, ⟨(pull s).1, (pull s).2, ?read, rfl⟩, push_eq_pushed v s,
    pull_eq_pulled s, ?lowEnd, ?highEnd⟩
  case write => rw [← stackAddr_eq_stackAt, push_eq_busWrite]
  case fall => rw [← byte_sub_one_eq_ofNat]; rfl
  case read => rw [← stackAddr_eq_stackAt, ← byte_add_one_eq_ofNat, pull_eq_busRead]
  case lowEnd => intro h; rw [push_sp, h]; decide
  case highEnd => intro h; rw [pull_snd_sp, h]; decide

end Sys2Proof.Machine
end

section
/-! PROOFS. The encoding (spec/30_encoding.md R80 to R84): both round trips, the length by mode, the fatal opcodes. -/

namespace Sys2Proof

/-- Settles O1: the opcode selects the form of the instruction, and the form's clause of the decoder reads its bytes. -/
theorem decodeEncodeRoundTrip : Obligations.DecodeEncodeRoundTrip := by
  intro i rest
  rcases opcodeForm_opcode i with ⟨form, bytes⟩ | ⟨mk, b, form, rfl, bytes⟩ | ⟨mk, w, form, rfl, bytes⟩ <;>
    rw [encode, bytes]
  · exact decode_none form
  · exact decode_byte form b
  · exact decode_word form w

theorem encode_of_decode {bs rest : List Byte} {i : Instr} (h : decode bs = .ok (i, rest)) : bs = encode i ++ rest := by
  obtain ⟨op, ⟨form, rfl⟩ | ⟨mk, b, form, rfl, rfl⟩ | ⟨mk, l, k, form, rfl, rfl⟩⟩ := decode_ok h
  all_goals
    have agrees := opcodeForm_agrees op
    rw [form] at agrees
  · rw [show encode i = [op] from agrees]; rfl
  · rw [show encode (mk b) = [op, b] from agrees b]; rfl
  · rw [show encode (mk (word l k)) = [op, lo (word l k), hi (word l k)] from agrees _, lo_word, hi_word]; rfl

/-- Settles O2: the bytes of each form that the decoder accepts are those of `opcodeForm_agrees`. -/
theorem encodeDecodeRoundTrip : Obligations.EncodeDecodeRoundTrip := fun _ _ _ => encode_of_decode

/-! ### The length -/

theorem encode_length (i : Instr) : (encode i).length = i.mode.length := by
  rw [encode, List.length_cons, Nat.add_comm, operand_bytes_length, Instr.mode]

/-- The form that an instruction's opcode selects is as long as the instruction's encoding (R83). -/
theorem instrLength_opcode (i : Instr) : instrLength i.opcode = some (encode i).length := by
  rcases opcodeForm_opcode i with ⟨form, bytes⟩ | ⟨mk, b, form, -, bytes⟩ | ⟨mk, w, form, -, bytes⟩ <;>
    rw [instrLength, form, encode, bytes] <;> rfl

/-- Settles O3: the length of the encoding is the length of the mode, which is a table of thirteen entries. -/
theorem lengthIsAFunctionOfTheMode : Obligations.LengthIsAFunctionOfTheMode := by
  intro i
  refine ⟨rfl, instrLength_opcode i, ?_⟩
  rw [encode_length]
  cases i.mode <;> decide

/-! ### The fatal opcodes -/

theorem instrLength_eq_none {op : Byte} : instrLength op = none ↔ opcodeForm op = none := Option.map_eq_none_iff

/-- An opcode has no table entry exactly when it is one of the 29 (R84). -/
theorem instrLength_eq_none_iff_fatal (op : Byte) : instrLength op = none ↔ op ∈ fatalOpcodes := by
  have fatal_has_none : ∀ op ∈ fatalOpcodes, instrLength op = none := by decide
  refine ⟨fun h => ?_, fatal_has_none op⟩
  have agrees := opcodeForm_agrees op
  rwa [instrLength_eq_none.mp h] at agrees

theorem mem_tableOpcodes_iff (op : Byte) : op ∈ tableOpcodes ↔ op ∉ fatalOpcodes := by
  revert op; decide +kernel

end Sys2Proof

namespace Sys2Proof.Machine

open Sys2Proof.Claims

theorem implementedForm_eq_none {ps : Params} {op : Byte} (h : op ∉ ps.implementedOpcodes ∨ instrLength op = none) :
    implementedForm ps op = none := by
  rcases h with absent | noEntry
  · simp [implementedForm, absent]
  · simp [implementedForm, instrLength_eq_none.mp noEntry]

/-- A fetched opcode that the block does not implement ends the fetch (R84, R87). -/
theorem fetch_unimplemented {s t : State} {op : Byte} (read : busRead s.pc s = .ok (op, t))
    (h : implementedForm s.params op = none) : fetch s = .error (.unimplementedOpcode op s.pc) := by
  simp only [fetch, read, h]

theorem step_of_fetch_error {s : State} {f : Fault} (ready : Ready s) (h : fetch { s with watchHit := false } = .error f) :
    step s = .fault f := by
  rw [step_execute ready.running ready.noBreak, h]

theorem step_of_fetch_ok {s : State} {f : Fetched} (ready : Ready s) (h : fetch { s with watchHit := false } = .ok f) :
    step s = runFetched { s with watchHit := false } f := by
  rw [step_execute ready.running ready.noBreak, h]

/-- Settles O5: the opcode map has its gaps at the 29 values, the default set is the rest, and a step faults with its
fetch. -/
theorem exactlyTwentyNineOpcodesAreFatal : Obligations.ExactlyTwentyNineOpcodesAreFatal := by
  refine ⟨instrLength_eq_none_iff_fatal, fun op => ?_, rfl, by decide +kernel, fun s t op ready read h => ?_⟩
  · rw [Ne, instrLength_eq_none_iff_fatal]; exact mem_tableOpcodes_iff op
  · exact step_of_fetch_error ready (fetch_unimplemented (s := { s with watchHit := false }) read (implementedForm_eq_none h))

/-! ### The step of the fetched instruction (R87) -/

/-- Reads at rising addresses that give some bytes start with the read of the first. -/
theorem busReads_cons {n : Nat} {a : Addr} {s t : State} {b : Byte} {bs : List Byte}
    (h : busReads (n + 1) a s = .ok (b :: bs, t)) :
    ∃ u, busRead a s = .ok (b, u) ∧ busReads n (a + 1) u = .ok (bs, t) := by
  rw [busReads] at h
  split at h
  · cases h
  · next c u first =>
    split at h
    · cases h
    · next cs v others => cases h; exact ⟨u, first, others⟩

/-- The bytes at PC that decode to an implemented instruction are what a fetch reads (R80, R87). -/
theorem fetch_of_busReads {s t : State} {i : Instr} {bs : List Byte} (implemented : i.wellFormed s.params = true)
    (reads : busReads i.length s.pc s = .ok (bs, t)) (decoded : decode bs = .ok (i, [])) : fetch s = .ok ⟨i, bs, t⟩ := by
  have bytes : bs = encode i := by simpa using encode_of_decode decoded
  have form_of_opcode : implementedForm s.params i.opcode = opcodeForm i.opcode := if_pos implemented
  rw [Instr.length, ← encode_length, bytes] at reads
  rw [bytes]
  rcases opcodeForm_opcode i with ⟨form, operand⟩ | ⟨mk, b, form, rfl, operand⟩ | ⟨mk, w, form, rfl, operand⟩ <;>
    rw [encode, operand] at reads ⊢
  · obtain ⟨u, first, rest⟩ := busReads_cons reads
    cases rest
    simp only [fetch, first, form_of_opcode, form, fetchForm]
  · obtain ⟨u, first, rest⟩ := busReads_cons reads
    obtain ⟨v, second, rest⟩ := busReads_cons rest
    cases rest
    simp only [fetch, first, form_of_opcode, form, fetchForm, second]
  · obtain ⟨u, first, rest⟩ := busReads_cons reads
    obtain ⟨v, second, rest⟩ := busReads_cons rest
    obtain ⟨x, third, rest⟩ := busReads_cons rest
    cases rest
    rw [show s.pc + 1 + 1 = s.pc + 2 from BitVec.add_assoc s.pc 1 1] at third
    simp only [fetch, first, form_of_opcode, form, fetchForm, second, third, word_lo_hi]

/-- Settles O49: the fetch is the bus reads at PC, and what follows a completed fetch is exec and the delivery. -/
theorem stepRunsTheFetchedInstruction : Obligations.StepRunsTheFetchedInstruction := by
  intro s t i bs ready implemented reads decoded
  exact step_of_fetch_ok ready (fetch_of_busReads (s := { s with watchHit := false }) implemented reads decoded)

end Sys2Proof.Machine
end

section
/-! PROOFS. Cost and program counter of every instruction (spec/30_encoding.md R88, spec/40_addressing.md R117, R118):
what each shape of `runEffect` does to PC and CYC, then the table's costs, then the step. -/

namespace Sys2Proof.Machine

open Sys2Proof.Claims

/-! ### What the parts of an instruction leave of PC and CYC -/

/-- Neither PC nor CYC has changed. -/
structure SameFlow (s t : State) : Prop where
  pc  : t.pc = s.pc
  cyc : t.cyc = s.cyc

theorem BusFrame.sameFlow {s t : State} (h : BusFrame s t) : SameFlow s t := ⟨by rw [h.same], by rw [h.same]⟩

theorem SameFlow.trans {s t u : State} (h : SameFlow s t) (k : SameFlow t u) : SameFlow s u :=
  ⟨k.pc.trans h.pc, k.cyc.trans h.cyc⟩

/-- The end of an instruction (R88) counts from the PC and CYC that the instruction began with. -/
theorem SameFlow.finish {s u : State} (h : SameFlow s u) (length cost : Nat) :
    (finish length cost u).cyc = s.cyc + cost ∧ (finish length cost u).pc = s.pc + BitVec.ofNat 16 length := by
  rw [finish_cyc, finish_pc, h.pc, h.cyc]; exact ⟨rfl, rfl⟩

/-- The effect works on registers and flags, and leaves PC and CYC to the end of the instruction (R88). -/
def Effect.KeepsFlow : Effect → Prop
  | .read eff => ∀ v s, SameFlow s (eff v s)
  | .rmw _ eff => ∀ r c s, SameFlow s (eff r c s)
  | .implied eff => ∀ s, SameFlow s (eff s)
  | _ => True

theorem effectOf_keepsFlow (m : Mnemonic) : (effectOf m).KeepsFlow := by
  cases m <;> simp only [effectOf, Effect.KeepsFlow] <;> intros <;> exact ⟨rfl, rfl⟩

/-- The effects that set PC explicitly (R88). -/
def Effect.setsPC : Effect → Bool
  | .branch _ | .jump | .call | .ret | .trapReturn | .trap => true
  | .read _ | .store _ | .rmw _ _ | .implied _ => false

/-- The penalty of R117 and R118 by effect and operand. -/
def effectPenalty (e : Effect) (o : Operand) (eligible : Bool) (s : State) : Nat :=
  match e, o with
  | .read _, .memory m => if eligible = true ∧ OtherPage (baseAddress m s) (effAddress m s) then 1 else 0
  | .branch cond, .relative off =>
    if cond s.p = true then 1 + (if OtherPage (s.pc + 2) (branchTarget off s) then 1 else 0) else 0
  | _, _ => 0

theorem extraCycle_crossed (a b : Addr) : extraCycle (crossed a b) = if OtherPage a b then 1 else 0 := by
  simp only [extraCycle, crossed_iff]

theorem pagePenalty_eq (eligible : Bool) (m : MemMode) (s : State) :
    pagePenalty eligible m s = if eligible = true ∧ OtherPage (baseAddress m s) (effAddress m s) then 1 else 0 := by
  simp only [pagePenalty, extraCycle, Bool.and_eq_true, crossed_iff]

/-! PC and CYC under the operations of the shapes. -/

theorem shiftA_sameFlow (op : Byte → Bool → Byte × Bool) (s : State) : SameFlow s (shiftA op s) := ⟨rfl, rfl⟩

theorem pushWord_cyc (w : Addr) (s : State) : (pushWord w s).cyc = s.cyc := rfl

theorem pullWord_snd_cyc (s : State) : (pullWord s).2.cyc = s.cyc := rfl

theorem returnFromBreak_cyc (s : State) : (returnFromBreak s).cyc = s.cyc := rfl

theorem takeBreak_completes (s : State) : ∃ t, takeBreak s = .ok t ∧ t.cyc = s.cyc :=
  ⟨_, takeBreak_eq s, by simp only [touch_cyc, push_cyc, pushWord_cyc]⟩

/-! ### Where a completed instruction goes -/

section
variable {e : Effect} {o : Operand} {base : Nat} {eligible : Bool} {s t u : State}

/-- A completed effect has paid its base cycles and its penalty, and ends past its own bytes if it sets no PC or is a
branch that costs nothing extra, which is one not taken (R88, R118). -/
structure Flow (e : Effect) (o : Operand) (base : Nat) (eligible : Bool) (s t : State) : Prop where
  cyc : t.cyc = s.cyc + (base + effectPenalty e o eligible s)
  pc  : e.setsPC = false ∨ (o.mode = .relative ∧ effectPenalty e o eligible s = 0) →
    t.pc = s.pc + BitVec.ofNat 16 o.mode.length

/-- The shapes with the common end of R88. -/
theorem Flow.of_finish (h : SameFlow s u) {cost : Nat} (paid : cost = base + effectPenalty e o eligible s) :
    Flow e o base eligible s (finish o.mode.length cost u) :=
  ⟨by rw [(h.finish _ _).1, paid], fun _ => (h.finish _ _).2⟩

/-- The shapes, other than a taken branch, that set PC explicitly: they have no penalty. -/
theorem Flow.of_spend (h : u.cyc = s.cyc) (free : effectPenalty e o eligible s = 0) (sets : e.setsPC = true)
    (noBranch : o.mode ≠ .relative) : Flow e o base eligible s (spend base u) where
  cyc := by rw [free, spend_cyc, h, Nat.add_zero]
  pc  := by
    rintro (setsNot | ⟨relative, -⟩)
    · exact absurd (setsNot.symm.trans sets) nofun
    · exact absurd relative noBranch

theorem branchClass_flow {cond : Flags → Bool} {off : Byte} (h : branchClass cond off base s = .next t) :
    Flow (.branch cond) (.relative off) base eligible s t := by
  unfold branchClass at h
  split at h
  · next taken =>
    have penalty : effectPenalty (.branch cond) (.relative off) eligible s =
        1 + extraCycle (crossed (s.pc + 2) (branchTarget off s)) := by
      rw [extraCycle_crossed]; exact if_pos taken
    cases h
    refine ⟨by rw [penalty, spend_cyc, jumpTo_cyc, Nat.add_assoc], ?_⟩
    rintro (setsNot | ⟨-, free⟩)
    · cases setsNot
    · omega
  · next notTaken =>
    have free : effectPenalty (.branch cond) (.relative off) eligible s = 0 := if_neg notTaken
    cases h
    exact .of_finish (o := .relative off) ⟨rfl, rfl⟩ (by rw [free, Nat.add_zero])

/-- Every shape of `runEffect`, in the order of its arms. -/
theorem runEffect_flow (keeps : e.KeepsFlow) (h : runEffect e o base eligible s = some (.next t)) :
    Flow e o base eligible s t := by
  unfold runEffect at h
  split at h <;> simp only [Option.some.injEq, reduceCtorEq] at h
  · next eff m =>
    obtain ⟨v, u, hr, rfl⟩ := readClass_next h
    exact .of_finish ((readOperand_frame hr).1.sameFlow.trans (keeps v u)) (by rw [pagePenalty_eq]; rfl)
  · next eff v => cases h; exact .of_finish (o := .immediate v) (keeps v s) rfl
  · cases h; exact .of_finish (o := .implied) ⟨rfl, rfl⟩ rfl
  · next value m =>
    obtain ⟨u, hw, rfl⟩ := storeClass_next h
    exact .of_finish ((afterPointer_frame m s).trans (.write hw)).sameFlow rfl
  · next op eff m =>
    obtain ⟨v, u, w, hr, hw, rfl⟩ := rmwClass_next h
    exact .of_finish (((readOperand_frame hr).1.trans (.write hw)).sameFlow.trans (keeps _ _ w)) rfl
  · next op eff => cases h; exact .of_finish (o := .accumulator) (shiftA_sameFlow op s) rfl
  · cases h; exact .of_finish (o := .implied) (keeps s) rfl
  · exact branchClass_flow h
  · cases h; exact .of_spend rfl rfl rfl nofun
  · next w =>
    split at h
    · cases h
    · next target u hr => cases h; exact .of_spend (readPair_next hr).1.sameFlow.cyc rfl rfl nofun
  · cases h; exact .of_spend (pushWord_cyc (s.pc + 2) s) rfl rfl nofun
  · cases h; exact .of_spend (pullWord_snd_cyc s) rfl rfl nofun
  · cases h; exact .of_spend (returnFromBreak_cyc s) rfl rfl nofun
  · obtain ⟨u, entered, cyc⟩ := takeBreak_completes s
    rw [entered] at h; cases h; exact .of_spend cyc rfl rfl nofun

end

/-! ### The table -/

/-- The table's rows and the effects agree on who pays a penalty: stores and RMW instructions have no page-cross row. -/
theorem penalty_eq_effectPenalty (i : Instr) (s : State) :
    penalty i s = effectPenalty (effectOf i.mnemonic) i.operand i.row.pageCross s := by
  cases i <;> rfl

theorem effect_setsPC {i : Instr} (h : ¬ setsPC i) : (effectOf i.mnemonic).setsPC = false := by
  have table : (effectOf i.mnemonic).setsPC =
      decide (i.mnemonic ∈ [.jmp, .jsr, .rts, .rti, .brk] ∨ i.mode = .relative) := by cases i <;> rfl
  rw [table]
  exact decide_eq_false h

theorem exec_flow {i : Instr} {s t : State} (h : exec i s = .next t) :
    Flow (effectOf i.mnemonic) i.operand i.row.baseCycles i.row.pageCross s t :=
  runEffect_flow (effectOf_keepsFlow _) ((exec_of_effect i s).trans (congrArg some h))

theorem exec_cyc {i : Instr} {s t : State} (h : exec i s = .next t) :
    t.cyc = s.cyc + (i.row.baseCycles + penalty i s) := by
  rw [penalty_eq_effectPenalty]
  exact (exec_flow h).cyc

theorem exec_pc {i : Instr} {s t : State} (h : exec i s = .next t)
    (straight : ¬ setsPC i ∨ (i.mode = .relative ∧ penalty i s = 0)) : t.pc = s.pc + BitVec.ofNat 16 i.length := by
  rw [penalty_eq_effectPenalty] at straight
  exact (exec_flow h).pc (straight.imp_left effect_setsPC)

/-- Settles O42: both clauses are the flow of the instruction's effect at its table row. -/
theorem costAndProgramCounterFollowTheTable : Obligations.CostAndProgramCounterFollowTheTable :=
  fun _ _ _ h => ⟨(exec_cyc h).trans (Nat.add_assoc _ _ _).symm, exec_pc h⟩

/-! ### The range of the costs -/

/-- The most that the penalties of R117 and R118 can add to a row. -/
def maxPenalty (i : Instr) : Nat :=
  match i.operand with
  | .memory _ => if i.row.pageCross = true then 1 else 0
  | .relative _ => 2
  | _ => 0

theorem penalty_le_maxPenalty (i : Instr) (s : State) : penalty i s ≤ maxPenalty i := by
  cases h : i.operand <;> simp only [penalty, maxPenalty, h]
  case memory m =>
    split_ifs with crossing eligible
    · exact le_rfl
    · exact absurd crossing.1 eligible
    all_goals omega
  case relative off => split_ifs <;> omega
  all_goals omega

/-- The range of the table's costs, row by row: 8 cycles are reached by unofficial rows only (R241). -/
theorem row_cost_range (i : Instr) :
    2 ≤ i.row.baseCycles ∧ i.row.baseCycles + maxPenalty i ≤ if unofficial i.mnemonic then 8 else 7 := by
  cases i <;> exact of_decide_eq_true rfl

theorem unofficial_of_official {i : Instr} (h : official i) : unofficial i.mnemonic = false := by
  unfold official at h
  revert h
  cases i.mnemonic <;> decide

theorem exec_cyc_range {i : Instr} {s t : State} (h : exec i s = .next t) :
    s.cyc + 2 ≤ t.cyc ∧ t.cyc ≤ s.cyc + if unofficial i.mnemonic then 8 else 7 := by
  have := penalty_le_maxPenalty i s
  obtain ⟨least, most⟩ := row_cost_range i
  rw [exec_cyc h]
  omega

/-- Settles O60: the step's cycles are its instruction's, since neither the fetch nor the delivery spends any. -/
theorem cyclesStrictlyIncrease : Obligations.CyclesStrictlyIncrease := by
  intro s t ready h
  obtain ⟨f, u, fetched, executed, rfl⟩ := step_next ready.running ready.noBreak h
  have start : f.after.cyc = s.cyc := (fetch_ok fetched).1.sameFlow.cyc
  have range := exec_cyc_range executed
  rw [start] at range
  refine ⟨range.1, range.2.trans ?_, fun g fetched' off => ?_⟩
  · split <;> omega
  · cases fetched.symm.trans fetched'
    rw [unofficial_of_official off] at range
    exact range.2

end Sys2Proof.Machine
end

section
/-! PROOFS. The addressing modes (spec/40_addressing.md R103 to R111, R116): the sums of the modes as numbers, and the
zero-page pointer as two bus reads. -/

namespace Sys2Proof.Machine

open Sys2Proof.Claims

/-! ### The sums as numbers -/

theorem zext16_eq_ofNat (b : Byte) : zext16 b = BitVec.ofNat 16 b.toNat := by
  rw [← zext16_toNat, BitVec.ofNat_toNat, BitVec.setWidth_eq]

/-- A zero-page sum wraps inside page 0 (R104, R105). -/
theorem zext16_add_eq_ofNat (z x : Byte) : zext16 (z + x) = BitVec.ofNat 16 ((z.toNat + x.toNat) % 256) := by
  rw [zext16_eq_ofNat, BitVec.toNat_add]

/-- The next pointer byte wraps inside page 0, whatever the sum before it (R110). -/
theorem zext16_add_add_one_eq_ofNat (z x : Byte) :
    zext16 (z + x + 1) = BitVec.ofNat 16 ((z.toNat + x.toNat + 1) % 256) := by
  rw [zext16_add_eq_ofNat, BitVec.toNat_add]
  exact congrArg (BitVec.ofNat 16) (Nat.mod_add_mod _ 256 1)

/-- An absolute sum wraps in the 16-bit space (R108). -/
theorem add_zext16_eq_ofNat (w : Addr) (x : Byte) : w + zext16 x = BitVec.ofNat 16 ((w.toNat + x.toNat) % 65536) := by
  rw [← add_zext16_toNat, BitVec.ofNat_toNat, BitVec.setWidth_eq]

/-- Settles O10: the sums of the modes as numbers; the modes without an index, the bases and the pointer reads are the
resolver's own clauses, and the page test is `crossed_iff`. -/
theorem directAddressingModes : Obligations.DirectAddressingModes := by
  refine ⟨fun s z w => ?modes, crossed_iff⟩
  exact ⟨zext16_eq_ofNat z, zext16_add_eq_ofNat z s.x, zext16_add_eq_ofNat z s.y, rfl,
    add_zext16_eq_ofNat w s.x, rfl, add_zext16_eq_ofNat w s.y, rfl, rfl, rfl, rfl, rfl, rfl, rfl⟩

/-! ### The zero-page pointer -/

/-- The pointer's word and the state after it come of two bus reads, low byte first (R10). -/
theorem zpWord_busReads (z : Byte) (s : State) : ∃ l h t u, busRead (zext16 z) s = .ok (l, t) ∧
    busRead (zext16 (z + 1)) t = .ok (h, u) ∧ zpWord z s = BitVec.ofNat 16 (wordValue l h) ∧ zpTouch z s = u := by
  obtain ⟨-, -, l, h, t, low, high, value⟩ := readPair_next (readPair_zeroPage z s)
  exact ⟨l, h, t, _, low, high, value.trans (word_eq_ofNat_wordValue l h), rfl⟩

theorem wordValue_lt (l h : Byte) : wordValue l h < 65536 := by
  rw [wordValue, ← word_toNat]; exact (word l h).isLt

/-- Settles O11: both modes read one zero-page pointer, at `z + X` or at `z`; the second adds Y to its word. -/
theorem pointerAddressingModes : Obligations.PointerAddressingModes := by
  refine fun s z => ⟨?indexedIndirect, ?indirectIndexed⟩
  case indexedIndirect =>
    obtain ⟨l, h, t, u, low, high, value, after⟩ := zpWord_busReads (z + s.x) s
    rw [zext16_add_eq_ofNat] at low
    rw [zext16_add_add_one_eq_ofNat] at high
    exact ⟨l, h, t, u, low, high, value, rfl, after⟩
  case indirectIndexed =>
    obtain ⟨l, h, t, u, low, high, value, after⟩ := zpWord_busReads z s
    rw [zext16_eq_ofNat] at low
    rw [zext16_add_eq_ofNat] at high
    refine ⟨l, h, t, u, low, high, value, ?sum, after⟩
    show zpWord z s + zext16 s.y = _
    rw [add_zext16_eq_ofNat, value, BitVec.toNat_ofNat, Nat.mod_eq_of_lt (wordValue_lt l h)]

end Sys2Proof.Machine
end

section
/-! PROOFS. Jumps and branches (spec/45_control_flow.md R200, R206 to R214): JMP's indirect target by the outcome of its
two pointer reads, and the branch forms by their condition. -/

namespace Sys2Proof.Machine

open Sys2Proof.Claims

/-! ### JMP -/

theorem exec_jmpAbs (w : Addr) (s : State) : exec (.jmpAbs w) s = .next (spend 3 (jumpTo w s)) := rfl

theorem exec_jmpInd (w : Addr) (s : State) : exec (.jmpInd w) s = execJmpInd w s := rfl

/-- The address of the high byte, with and without the wrap inside the page (R112). -/
theorem indirectHigh_eq_ofNat (w : Addr) (wrap : Bool) : indirectHigh w wrap =
    if wrap = true then BitVec.ofNat 16 (w.toNat / 256 * 256 + (w.toNat + 1) % 256)
      else BitVec.ofNat 16 ((w.toNat + 1) % 65536) := by
  cases wrap with
  | true => rw [if_pos rfl, ← indirectHigh_wrap, BitVec.ofNat_toNat, BitVec.setWidth_eq]
  | false => rw [if_neg Bool.false_ne_true, indirectHigh_noWrap]; exact add_zext16_eq_ofNat w 1

section
variable {a b w target : Addr} {l h : Byte} {s t u : State} {f : Fault}

theorem readPair_ok (low : busRead a s = .ok (l, t)) (high : busRead b t = .ok (h, u)) :
    readPair a b s = .ok (word l h, u) := by
  simp only [readPair, low, high]

theorem readPair_error_low (low : busRead a s = .error f) : readPair a b s = .error f := by
  simp only [readPair, low]

theorem readPair_error_high (low : busRead a s = .ok (l, t)) (high : busRead b t = .error f) :
    readPair a b s = .error f := by
  simp only [readPair, low, high]

theorem exec_jmpInd_of_ok (resolved : indirectTarget w s = .ok (target, u)) :
    exec (.jmpInd w) s = .next (spend 5 (jumpTo target u)) := by
  simp only [exec_jmpInd, execJmpInd, resolved]

theorem exec_jmpInd_of_error (faulted : indirectTarget w s = .error f) : exec (.jmpInd w) s = .fault f := by
  simp only [exec_jmpInd, execJmpInd, faulted]

end

/-- Settles O29: JMP absolute is its one arm; JMP indirect by the outcomes of its two pointer reads, which keep PC and
CYC. -/
theorem jmpBothForms : Obligations.JmpBothForms := by
  refine ⟨fun w s => ⟨rfl, exec_jmpAbs w s⟩, fun w s => ⟨rfl, ?indirect⟩⟩
  intro high
  have target_eq : indirectTarget w s = readPair w high s := by rw [indirectTarget, indirectHigh_eq_ofNat]
  refine ⟨fun mappedLow mappedHigh => ?completes, fun unmappedLow => ?lowFaults,
    fun mappedLow unmappedHigh => ?highFaults⟩
  case completes =>
    obtain ⟨l, t, lowRead⟩ := busRead_completes (s := s) mappedLow
    obtain ⟨h, u, highRead⟩ := busRead_completes (s := t) mappedHigh
    have cyc_eq : u.cyc = s.cyc := ((BusFrame.read lowRead).1.trans (BusFrame.read highRead).1).sameFlow.cyc
    refine ⟨l, h, t, u, lowRead, highRead, ?_⟩
    rw [exec_jmpInd_of_ok (target_eq.trans (readPair_ok lowRead highRead)), ← cyc_eq, ← word_eq_ofNat_wordValue]
    rfl
  case lowFaults =>
    exact exec_jmpInd_of_error (target_eq.trans (readPair_error_low (busRead_fatal unmappedLow.1 unmappedLow.2)))
  case highFaults =>
    obtain ⟨l, t, lowRead⟩ := busRead_completes (s := s) mappedLow
    have pc_eq : t.pc = s.pc := (BusFrame.read lowRead).1.sameFlow.pc
    rw [← pc_eq]
    exact exec_jmpInd_of_error
      (target_eq.trans (readPair_error_high lowRead (busRead_fatal unmappedHigh.1 unmappedHigh.2)))

/-! ### Branches -/

/-- A branch's target is the signed offset added to the address of the next instruction (R115). -/
theorem branchTarget_eq_ofInt (off : Byte) (s : State) :
    branchTarget off s = BitVec.ofInt 16 ((s.pc + 2).toNat + off.toInt) := add_sext16 (s.pc + 2) off

section
variable {test : Flags → Bool} {base : Nat} {off : Byte} {s : State}

theorem branchClass_taken (taken : test s.p = true) : branchClass test off base s =
    .next { s with
      pc := branchTarget off s
      cyc := s.cyc + (base + 1 + if OtherPage (s.pc + 2) (branchTarget off s) then 1 else 0) } := by
  rw [branchClass, if_pos taken, extraCycle_crossed]; rfl

theorem branchClass_not_taken (notTaken : ¬ test s.p = true) :
    branchClass test off base s = .next { s with pc := s.pc + 2, cyc := s.cyc + base } := by
  rw [branchClass, if_neg notTaken]; rfl

end

/-- An instruction of the branch shape at base cost 2 has the branch form of the condition that its test decides. -/
theorem branchForm_of_branchClass {op : Byte} {mk : Byte → Instr} {test : Flags → Bool} {cond : Flags → Prop}
    (opcode : ∀ off, (mk off).opcode = op) (meaning : ∀ off s, exec (mk off) s = branchClass test off 2 s)
    (decides : ∀ f, test f = true ↔ cond f) : BranchForm op mk cond := by
  refine fun off s => ⟨opcode off, fun taken => ?taken, fun notTaken => ?notTaken⟩
  case taken => rw [meaning, branchClass_taken ((decides s.p).mpr taken), branchTarget_eq_ofInt]
  case notTaken => rw [meaning, branchClass_not_taken (mt (decides s.p).mp notTaken)]

/-- Settles O33: all eight are the branch shape, four on a set flag and four on a clear one. -/
theorem branchesEveryForm : Obligations.BranchesEveryForm := by
  have clear (b : Bool) : (!b) = true ↔ b = false := iff_of_eq (Bool.not_eq_true' b)
  exact ⟨branchForm_of_branchClass (fun _ => rfl) (fun _ _ => rfl) (fun f => clear f.c),
    branchForm_of_branchClass (fun _ => rfl) (fun _ _ => rfl) (fun _ => Iff.rfl),
    branchForm_of_branchClass (fun _ => rfl) (fun _ _ => rfl) (fun _ => Iff.rfl),
    branchForm_of_branchClass (fun _ => rfl) (fun _ _ => rfl) (fun f => clear f.z),
    branchForm_of_branchClass (fun _ => rfl) (fun _ _ => rfl) (fun _ => Iff.rfl),
    branchForm_of_branchClass (fun _ => rfl) (fun _ _ => rfl) (fun f => clear f.n),
    branchForm_of_branchClass (fun _ => rfl) (fun _ _ => rfl) (fun f => clear f.v),
    branchForm_of_branchClass (fun _ => rfl) (fun _ _ => rfl) (fun _ => Iff.rfl)⟩

end Sys2Proof.Machine
end

section
/-! PROOFS. The instruction forms of the claims from the model's shapes (spec/40_addressing.md R113, R114, R117), and with
them loads, stores and register transfers (spec/41_load_store_transfer.md R130 to R141, spec/47_unofficial.md R232,
R233). -/

namespace Sys2Proof.Machine

open Sys2Proof.Claims

/-! ### The shapes, by the outcome of their access -/

theorem SameFlow.finish_eq_ended {s t : State} (h : SameFlow s t) (len cost : Nat) :
    Machine.finish len cost t = ended s len cost t := by
  rw [ended, ← h.pc, ← h.cyc]; rfl

section
variable {eff : Byte → State → State} {value : State → Byte} {m : MemMode} {base : Nat} {eligible : Bool}
  {v : Byte} {s t : State} {f : Fault}

theorem readClass_of_ok (read : readOperand m s = .ok (v, t)) : readClass eff m base eligible s =
    .next (finish (memLength m) (base + pagePenalty eligible m s) (eff v t)) := by
  simp only [readClass, read]

theorem readClass_of_error (faulted : readOperand m s = .error f) : readClass eff m base eligible s = .fault f := by
  simp only [readClass, faulted]

theorem storeClass_of_ok (written : busWrite (effAddress m s) (value s) (afterPointer m s) = .ok t) :
    storeClass value m base s = .next (finish (memLength m) base t) := by
  simp only [storeClass, written]

theorem storeClass_of_error (faulted : busWrite (effAddress m s) (value s) (afterPointer m s) = .error f) :
    storeClass value m base s = .fault f := by
  simp only [storeClass, faulted]

/-! The access at the effective address, after the pointer reads, by the region of that address. -/

theorem readOperand_completes (mapped : Mapped (effAddress m s)) : ∃ v t, readOperand m s = .ok (v, t) :=
  busRead_completes mapped

theorem readOperand_unmapped (unmapped : Unmapped (effAddress m s)) :
    readOperand m s = .error (.unmappedAccess (effAddress m s) s.pc) := by
  rw [readOperand, busRead_fatal unmapped.1 unmapped.2, afterPointer_pc]

theorem busWrite_effAddress_completes (v : Byte) (writable : Writable s (effAddress m s)) :
    ∃ t, busWrite (effAddress m s) v (afterPointer m s) = .ok t :=
  busWrite_completes (by rw [afterPointer_params]; exact writable)

theorem busWrite_effAddress_romFault (v : Byte) (rom : RomFault s (effAddress m s)) :
    busWrite (effAddress m s) v (afterPointer m s) = .error (.romWrite (effAddress m s) s.pc) := by
  rw [busWrite_prg_fault rom.1 (by rw [afterPointer_params]; exact rom.2), afterPointer_pc]

theorem busWrite_effAddress_unmapped (v : Byte) (unmapped : Unmapped (effAddress m s)) :
    busWrite (effAddress m s) v (afterPointer m s) = .error (.unmappedAccess (effAddress m s) s.pc) := by
  rw [busWrite_fatal unmapped.1 unmapped.2, afterPointer_pc]

end

/-! ### From a shape to its form

`arm` is what the model's tables say of the instruction: its opcode, its mode's length, and its meaning as a shape. `keeps`
leaves PC and CYC to the end of the instruction (R88). The effect of a read or immediate form is the model's own; an implied
form may name the model's effect in the words of the claim, which `agrees` ties to it. -/

section
variable {β : Type} {op : Byte} {mode : β → MemMode} {len base : Nat} {eligible : Bool}

theorem readForm_of_readClass {mk : β → Instr} {eff : Byte → State → State} (keeps : ∀ v s, SameFlow s (eff v s))
    (arm : ∀ b s, (mk b).opcode = op ∧ memLength (mode b) = len ∧
      exec (mk b) s = readClass eff (mode b) base eligible s) :
    ReadForm op mk mode len base eligible eff := by
  intro b s
  obtain ⟨opcode, length, meaning⟩ := arm b s
  refine ⟨opcode, fun mapped => ?completes, fun unmapped => ?faults⟩
  case completes =>
    obtain ⟨v, t, read⟩ := readOperand_completes mapped
    have flow : SameFlow s (eff v t) := (readOperand_frame read).1.sameFlow.trans (keeps v t)
    refine ⟨v, t, read, ?_⟩
    rw [meaning, readClass_of_ok read, length, flow.finish_eq_ended, pagePenalty_eq]
  case faults => rw [meaning, readClass_of_error (readOperand_unmapped unmapped)]

theorem storeForm_of_storeClass {mk : β → Instr} {value : State → Byte}
    (arm : ∀ b s, (mk b).opcode = op ∧ memLength (mode b) = len ∧
      exec (mk b) s = storeClass value (mode b) base s) :
    StoreForm op mk mode len base value := by
  intro b s
  obtain ⟨opcode, length, meaning⟩ := arm b s
  refine ⟨opcode, fun writable => ?completes, fun rom => ?romWrite, fun unmapped => ?unmappedAccess⟩
  case completes =>
    obtain ⟨t, written⟩ := busWrite_effAddress_completes (value s) writable
    have flow : SameFlow s t := ((afterPointer_frame (mode b) s).trans (.write written)).sameFlow
    refine ⟨t, written, ?_⟩
    rw [meaning, storeClass_of_ok written, length, flow.finish_eq_ended]
  case romWrite => rw [meaning, storeClass_of_error (busWrite_effAddress_romFault _ rom)]
  case unmappedAccess => rw [meaning, storeClass_of_error (busWrite_effAddress_unmapped _ unmapped)]

theorem immediateForm_of_immediateClass {mk : Byte → Instr} {eff : Byte → State → State}
    (keeps : ∀ v s, SameFlow s (eff v s))
    (arm : ∀ v s, (mk v).opcode = op ∧ exec (mk v) s = immediateClass eff v 2 s) :
    ImmediateForm op mk eff := by
  intro v s
  obtain ⟨opcode, meaning⟩ := arm v s
  exact ⟨opcode, by rw [meaning, immediateClass, (keeps v s).finish_eq_ended]⟩

theorem impliedForm_of_impliedClass {i : Instr} {eff claimed : State → State}
    (keeps : ∀ s, SameFlow s (eff s)) (agrees : ∀ s, eff s = claimed s)
    (opcode : i.opcode = op) (meaning : ∀ s, exec i s = impliedClass eff base s) :
    ImpliedForm op i base claimed :=
  ⟨opcode, fun s => by rw [meaning, impliedClass, (keeps s).finish_eq_ended, agrees]⟩

end

/-! ### Loads, stores and transfers -/

theorem Flags.setNZ_eq_nz (f : Flags) (v : Byte) : f.setNZ v = nz v f := rfl

section
variable (v : Byte) (s : State)

theorem setA_eq : setA v s = { s with a := v, p := nz v s.p } := by rw [setA, Flags.setNZ_eq_nz]

theorem setX_eq : setX v s = { s with x := v, p := nz v s.p } := by rw [setX, Flags.setNZ_eq_nz]

theorem setY_eq : setY v s = { s with y := v, p := nz v s.p } := by rw [setY, Flags.setNZ_eq_nz]

theorem setAX_eq : setAX v s = { s with a := v, x := v, p := nz v s.p } := by rw [setAX, Flags.setNZ_eq_nz]

end

/-- Settles O17: each claimed load is the model's effect, and every form is the read or the immediate shape of that effect. -/
theorem loadsEveryForm : Obligations.LoadsEveryForm := by
  unfold Obligations.LoadsEveryForm
  rw [← funext₂ setA_eq, ← funext₂ setX_eq, ← funext₂ setY_eq, ← funext₂ setAX_eq]
  have lda : ∀ v s, SameFlow s (setA v s) := effectOf_keepsFlow .lda
  have ldx : ∀ v s, SameFlow s (setX v s) := effectOf_keepsFlow .ldx
  have ldy : ∀ v s, SameFlow s (setY v s) := effectOf_keepsFlow .ldy
  have lax : ∀ v s, SameFlow s (setAX v s) := effectOf_keepsFlow .lax
  refine ⟨readForm_of_readClass lda ?_, readForm_of_readClass lda ?_,
    immediateForm_of_immediateClass lda fun _ _ => ⟨rfl, rfl⟩, readForm_of_readClass lda ?_,
    readForm_of_readClass lda ?_, readForm_of_readClass lda ?_, readForm_of_readClass lda ?_,
    readForm_of_readClass lda ?_,
    immediateForm_of_immediateClass ldx fun _ _ => ⟨rfl, rfl⟩, readForm_of_readClass ldx ?_,
    readForm_of_readClass ldx ?_, readForm_of_readClass ldx ?_, readForm_of_readClass ldx ?_,
    immediateForm_of_immediateClass ldy fun _ _ => ⟨rfl, rfl⟩, readForm_of_readClass ldy ?_,
    readForm_of_readClass ldy ?_, readForm_of_readClass ldy ?_, readForm_of_readClass ldy ?_,
    readForm_of_readClass lax ?_, readForm_of_readClass lax ?_, readForm_of_readClass lax ?_,
    readForm_of_readClass lax ?_, readForm_of_readClass lax ?_, readForm_of_readClass lax ?_⟩
  all_goals exact fun _ _ => ⟨rfl, rfl, rfl⟩

/-- Settles O18: every form is the store shape of its mnemonic's register value. -/
theorem storesEveryForm : Obligations.StoresEveryForm := by
  refine ⟨?_, ?_, ?_, ?_, ?_, ?_, ?_, ?_, ?_, ?_, ?_, ?_, ?_, ?_, ?_, ?_, ?_⟩
  all_goals exact storeForm_of_storeClass fun _ _ => ⟨rfl, rfl, rfl⟩

/-- Settles O19: every transfer is the implied shape of its mnemonic's effect, and TXS's effect has no flags. -/
theorem transfersEveryForm : Obligations.TransfersEveryForm :=
  ⟨impliedForm_of_impliedClass (effectOf_keepsFlow .tax) (fun s => setX_eq s.a s) rfl fun _ => rfl,
    impliedForm_of_impliedClass (effectOf_keepsFlow .tay) (fun s => setY_eq s.a s) rfl fun _ => rfl,
    impliedForm_of_impliedClass (effectOf_keepsFlow .txa) (fun s => setA_eq s.x s) rfl fun _ => rfl,
    impliedForm_of_impliedClass (effectOf_keepsFlow .tya) (fun s => setA_eq s.y s) rfl fun _ => rfl,
    impliedForm_of_impliedClass (effectOf_keepsFlow .tsx) (fun s => setX_eq s.sp s) rfl fun _ => rfl,
    impliedForm_of_impliedClass (effectOf_keepsFlow .txs) (fun _ => rfl) rfl fun _ => rfl⟩

end Sys2Proof.Machine
end

section
/-! PROOFS. The read-modify-write form of the claims from the model's shape (spec/40_addressing.md R114), and with it
arithmetic, logic, compares, increments and decrements (spec/42_arith_logic.md R150 to R164, spec/47_unofficial.md R234). -/

namespace Sys2Proof.Machine

open Sys2Proof.Claims

/-! ### The read-modify-write shape, by the outcomes of its two accesses -/

theorem BusFrame.p_eq {s t : State} (h : BusFrame s t) : t.p = s.p := by rw [h.same]

theorem BusFrame.params_eq {s t : State} (h : BusFrame s t) : t.params = s.params := by rw [h.same]

section
variable {f : Byte → Bool → Byte × Bool} {eff : Byte → Bool → State → State} {m : MemMode} {base : Nat}
  {v : Byte} {s t u : State} {e : Fault}

theorem rmwClass_of_ok (read : readOperand m s = .ok (v, t))
    (written : busWrite (effAddress m s) (f v s.p.c).1 t = .ok u) : rmwClass f eff m base s =
      .next (finish (memLength m) base (eff (f v s.p.c).1 (f v s.p.c).2 u)) := by
  simp only [rmwClass, read, written]

theorem rmwClass_of_read_error (faulted : readOperand m s = .error e) : rmwClass f eff m base s = .fault e := by
  simp only [rmwClass, faulted]

theorem rmwClass_of_write_error (read : readOperand m s = .ok (v, t))
    (faulted : busWrite (effAddress m s) (f v s.p.c).1 t = .error e) : rmwClass f eff m base s = .fault e := by
  simp only [rmwClass, read, faulted]

end

/-- The form of an instruction of the read-modify-write shape. `agrees` is asked only for the carry of the state itself,
because neither access changes the flags; so a claim may leave C alone where the model writes the old carry back. -/
theorem rmwForm_of_rmwClass {β : Type} {op : Byte} {mk : β → Instr} {mode : β → MemMode} {len base : Nat}
    {f : Byte → Bool → Byte × Bool} {eff claimed : Byte → Bool → State → State}
    (keeps : ∀ r c s, SameFlow s (eff r c s))
    (agrees : ∀ v s, eff (f v s.p.c).1 (f v s.p.c).2 s = claimed (f v s.p.c).1 (f v s.p.c).2 s)
    (arm : ∀ b s, (mk b).opcode = op ∧ memLength (mode b) = len ∧ exec (mk b) s = rmwClass f eff (mode b) base s) :
    RmwForm op mk mode len base f claimed := by
  intro b s
  obtain ⟨opcode, length, meaning⟩ := arm b s
  refine ⟨opcode, fun writable => ?completes, fun rom => ?romWrite, fun unmapped => ?unmappedAccess⟩
  case completes =>
    obtain ⟨v, t, read⟩ := readOperand_completes (writable.imp_right And.left)
    have readFrame : BusFrame s t := (readOperand_frame read).1
    obtain ⟨u, written⟩ := busWrite_completes (s := t) (v := (f v s.p.c).1) (by rw [readFrame.params_eq]; exact writable)
    have frame : BusFrame s u := readFrame.trans (.write written)
    refine ⟨v, t, u, read, written, ?_⟩
    have effect := agrees v u
    rw [frame.p_eq] at effect
    rw [meaning, rmwClass_of_ok read written, (frame.sameFlow.trans (keeps _ _ u)).finish_eq_ended, length, effect]
  case romWrite =>
    obtain ⟨v, t, read⟩ := readOperand_completes (m := mode b) (s := s) (.inr rom.1)
    have frame : BusFrame s t := (readOperand_frame read).1
    rw [meaning, rmwClass_of_write_error read (busWrite_prg_fault rom.1 (by rw [frame.params_eq]; exact rom.2)),
      frame.sameFlow.pc]
  case unmappedAccess => rw [meaning, rmwClass_of_read_error (readOperand_unmapped unmapped)]

/-! ### ADC and SBC -/

/-- The flags of `AddWithCarry` in the claims' words (R150). -/
theorem Flags.add_eq (f : Flags) (a v : Byte) : f.add a v = nz (addResult a v f.c) { f with
    c := decide (0xFF < addSum a v f.c)
    v := decide (~~~(a ^^^ v) &&& (a ^^^ addResult a v f.c) &&& 0x80 ≠ 0) } := by
  simp only [Flags.add, Flags.setNZ_eq_nz, bne, beq_eq_decide, decide_not]

/-- The model's sum is the sum of R150. -/
theorem addSum_eq_bit (a v : Byte) (c : Bool) : addSum a v c = a.toNat + v.toNat + bit c := by
  rw [addSum, bit_eq_toNat]

theorem addToA_eq_adcEff (v : Byte) (s : State) : addToA v s = adcEff v s := by
  rw [addToA, Flags.add_eq, addResult, addSum_eq_bit, adcEff]

/-- The 9-bit sum with the complement, 256 more than the subtraction with borrow. -/
theorem addSum_not (a m : Byte) (c : Bool) :
    (addSum a (~~~m) c : Int) = (a.toNat - m.toNat - (1 - bit c) : Int) + 256 := by
  have := m.isLt
  rw [addSum, not_toNat, bit_eq_toNat]
  omega

/-- Modulo 256, adding the complement subtracts with borrow (R151). -/
theorem addResult_not (a m : Byte) (c : Bool) :
    addResult a (~~~m) c = BitVec.ofInt 8 (a.toNat - m.toNat - (1 - bit c) : Int) := by
  rw [addResult, ← BitVec.ofInt_natCast, addSum_not]
  apply BitVec.eq_of_toInt_eq
  simp only [BitVec.toInt_ofInt]
  exact Int.add_bmod_right _ _

/-- The sum with the complement carries exactly when the subtraction does not borrow (R151). -/
theorem carry_not_iff (a m : Byte) (c : Bool) : 0xFF < addSum a (~~~m) c ↔ m.toNat + (1 - bit c) ≤ a.toNat := by
  have sum := addSum_not a m c
  have : bit c ≤ 1 := by cases c <;> decide
  omega

/-- The two forms of R151 agree: `AddWithCarry` of the complement is the subtraction with borrow. -/
theorem subFromA_eq_sbcEff (m : Byte) (s : State) : subFromA m s = sbcEff m s := by
  have overflow (a r : Byte) : ~~~(a ^^^ ~~~m) &&& (a ^^^ r) &&& 0x80 = (a ^^^ m) &&& (a ^^^ r) &&& 0x80 := by
    rw [BitVec.not_xor_right, BitVec.not_not]
  simp only [subFromA, addToA, Flags.add_eq, sbcEff, addResult_not, carry_not_iff, overflow]

/-- Settles O20: every form is the read or the immediate shape of `AddWithCarry`, which is the rule's sum. -/
theorem adcEveryForm : Obligations.AdcEveryForm := by
  unfold Obligations.AdcEveryForm
  rw [← funext₂ addToA_eq_adcEff]
  have keeps : ∀ v s, SameFlow s (addToA v s) := effectOf_keepsFlow .adc
  refine ⟨?_, ?_, immediateForm_of_immediateClass keeps fun _ _ => ⟨rfl, rfl⟩, ?_, ?_, ?_, ?_, ?_⟩
  all_goals exact readForm_of_readClass keeps fun _ _ => ⟨rfl, rfl, rfl⟩

/-- Settles O22: every form is the read or the immediate shape of `AddWithCarry` of the complement, which subtracts with
borrow; the two identities hold between the arms themselves. -/
theorem sbcEveryForm : Obligations.SbcEveryForm := by
  unfold Obligations.SbcEveryForm
  rw [← funext₂ subFromA_eq_sbcEff]
  have keeps : ∀ v s, SameFlow s (subFromA v s) := effectOf_keepsFlow .sbc
  refine ⟨?_, ?_, immediateForm_of_immediateClass keeps fun _ _ => ⟨rfl, rfl⟩, ?_, ?_, ?_, ?_, ?_,
    immediateForm_of_immediateClass keeps fun _ _ => ⟨rfl, rfl⟩, fun _ _ => ⟨rfl, rfl⟩⟩
  all_goals exact readForm_of_readClass keeps fun _ _ => ⟨rfl, rfl, rfl⟩

/-! ### AND, ORA, EOR, BIT and the compares -/

theorem Flags.compare_eq_compareFlags (f : Flags) (r v : Byte) : f.compare r v = compareFlags r v f := rfl

section
variable (v : Byte) (s : State)

theorem andA_eq : andA v s = { s with a := s.a &&& v, p := nz (s.a &&& v) s.p } := setA_eq _ s

theorem orA_eq : orA v s = { s with a := s.a ||| v, p := nz (s.a ||| v) s.p } := setA_eq _ s

theorem eorA_eq : eorA v s = { s with a := s.a ^^^ v, p := nz (s.a ^^^ v) s.p } := setA_eq _ s

theorem bitA_eq : bitA v s =
    { s with p := { s.p with n := v.getLsbD 7, v := v.getLsbD 6, z := decide (s.a &&& v = 0) } } := rfl

theorem compareA_eq : compareA v s = { s with p := compareFlags s.a v s.p } := by
  rw [compareA, Flags.compare_eq_compareFlags]

theorem compareX_eq : compareX v s = { s with p := compareFlags s.x v s.p } := by
  rw [compareX, Flags.compare_eq_compareFlags]

theorem compareY_eq : compareY v s = { s with p := compareFlags s.y v s.p } := by
  rw [compareY, Flags.compare_eq_compareFlags]

end

/-- Settles O23: every form is the read or the immediate shape of the effect that combines the operand into A. -/
theorem logicEveryForm : Obligations.LogicEveryForm := by
  unfold Obligations.LogicEveryForm
  rw [← funext₂ andA_eq, ← funext₂ orA_eq, ← funext₂ eorA_eq]
  refine ⟨?_, ?_, immediateForm_of_immediateClass (effectOf_keepsFlow .and) fun _ _ => ⟨rfl, rfl⟩, ?_, ?_, ?_, ?_, ?_,
    ?_, ?_, immediateForm_of_immediateClass (effectOf_keepsFlow .ora) fun _ _ => ⟨rfl, rfl⟩, ?_, ?_, ?_, ?_, ?_,
    ?_, ?_, immediateForm_of_immediateClass (effectOf_keepsFlow .eor) fun _ _ => ⟨rfl, rfl⟩, ?_, ?_, ?_, ?_, ?_⟩
  all_goals exact readForm_of_readClass (fun _ _ => ⟨rfl, rfl⟩) fun _ _ => ⟨rfl, rfl, rfl⟩

/-- Settles O24: every form is the read or the immediate shape of an effect on the flags alone. -/
theorem bitAndComparesEveryForm : Obligations.BitAndComparesEveryForm := by
  unfold Obligations.BitAndComparesEveryForm
  rw [← funext₂ bitA_eq, ← funext₂ compareA_eq, ← funext₂ compareX_eq, ← funext₂ compareY_eq]
  refine ⟨?_, ?_,
    ?_, ?_, immediateForm_of_immediateClass (effectOf_keepsFlow .cmp) fun _ _ => ⟨rfl, rfl⟩, ?_, ?_, ?_, ?_, ?_,
    immediateForm_of_immediateClass (effectOf_keepsFlow .cpx) fun _ _ => ⟨rfl, rfl⟩, ?_, ?_,
    immediateForm_of_immediateClass (effectOf_keepsFlow .cpy) fun _ _ => ⟨rfl, rfl⟩, ?_, ?_⟩
  all_goals exact readForm_of_readClass (fun _ _ => ⟨rfl, rfl⟩) fun _ _ => ⟨rfl, rfl, rfl⟩

/-! ### INC and DEC, and their register forms -/

theorem incByte_eq (v : Byte) (c : Bool) : incByte v c = (BitVec.ofNat 8 (v.toNat + 1), c) := by
  rw [incByte, byte_add_one_eq_ofNat]

theorem decByte_eq (v : Byte) (c : Bool) : decByte v c = (BitVec.ofNat 8 (v.toNat + 255), c) := by
  rw [decByte, byte_sub_one_eq_ofNat]

/-- With the state's own carry, only N and Z change: C passes through (R159, R160). -/
theorem setCNZ_same_carry (r : Byte) (s : State) : setCNZ r s.p.c s = { s with p := nz r s.p } := rfl

/-- Settles O25: every form is the read-modify-write shape, whose byte operation hands the state's carry through. -/
theorem incDecMemoryEveryForm : Obligations.IncDecMemoryEveryForm := by
  unfold Obligations.IncDecMemoryEveryForm
  rw [← funext₂ incByte_eq, ← funext₂ decByte_eq]
  have keeps : ∀ r c s, SameFlow s (setCNZ r c s) := effectOf_keepsFlow .inc
  refine ⟨?_, ?_, ?_, ?_, ?_, ?_, ?_, ?_⟩
  all_goals exact rmwForm_of_rmwClass keeps (fun _ s => setCNZ_same_carry _ s) fun _ _ => ⟨rfl, rfl, rfl⟩

/-- Settles O26: every form is the implied shape that loads the register with its sum modulo 256. -/
theorem incDecRegisterEveryForm : Obligations.IncDecRegisterEveryForm := by
  refine ⟨impliedForm_of_impliedClass (effectOf_keepsFlow .inx) (fun s => ?inx) rfl fun _ => rfl,
    impliedForm_of_impliedClass (effectOf_keepsFlow .iny) (fun s => ?iny) rfl fun _ => rfl,
    impliedForm_of_impliedClass (effectOf_keepsFlow .dex) (fun s => ?dex) rfl fun _ => rfl,
    impliedForm_of_impliedClass (effectOf_keepsFlow .dey) (fun s => ?dey) rfl fun _ => rfl⟩
  case inx => rw [setX_eq, byte_add_one_eq_ofNat]
  case iny => rw [setY_eq, byte_add_one_eq_ofNat]
  case dex => rw [setX_eq, byte_sub_one_eq_ofNat]
  case dey => rw [setY_eq, byte_sub_one_eq_ofNat]

end Sys2Proof.Machine
end

section
/-! PROOFS. The shifts and rotates of the model as the arithmetic of the claims, and with them ASL, LSR, ROL and ROR
(spec/43_shift_rotate.md R180 to R183). -/

namespace Sys2Proof.Machine

open Sys2Proof.Claims

/-! ### Bits and shifts of a byte, as numbers -/

section
variable (v : Byte) (c : Bool)

theorem bit7_eq_decide : v.getLsbD 7 = decide (0x80 ≤ v.toNat) :=
  (BitVec.msb_eq_getLsbD_last v).symm.trans (BitVec.msb_eq_decide v)

theorem bit0_eq_decide : v.getLsbD 0 = decide (v.toNat % 2 = 1) := Nat.testBit_zero v.toNat

theorem shiftLeft_one_toNat : (v <<< 1).toNat = 2 * (v.toNat % 128) := by
  rw [BitVec.toNat_shiftLeft, Nat.shiftLeft_eq]; omega

theorem shiftRight_one_toNat : (v >>> 1).toNat = v.toNat / 2 := by
  rw [BitVec.toNat_ushiftRight, Nat.shiftRight_eq_div_pow]

theorem carryByte_toNat : ((BitVec.ofBool c).setWidth 8).toNat = bit c := by cases c <;> rfl

theorem carryByte_shiftLeft_seven_toNat : ((BitVec.ofBool c).setWidth 8 <<< 7).toNat = 128 * bit c := by cases c <;> rfl

theorem bit_lt_two : bit c < 2 := by cases c <;> decide

/-! The shifted byte leaves the place of the carry clear, so joining the two adds them. -/

theorem shiftLeft_or_carry_toNat :
    (v <<< 1 ||| (BitVec.ofBool c).setWidth 8).toNat = 2 * (v.toNat % 128) + bit c := by
  rw [BitVec.toNat_or, shiftLeft_one_toNat, carryByte_toNat]
  exact (Nat.two_pow_add_eq_or_of_lt (i := 1) (bit_lt_two c) _).symm

theorem shiftRight_or_carry_toNat :
    (v >>> 1 ||| (BitVec.ofBool c).setWidth 8 <<< 7).toNat = v.toNat / 2 + 128 * bit c := by
  have low : v.toNat / 2 < 2 ^ 7 := by omega
  rw [BitVec.toNat_or, shiftRight_one_toNat, carryByte_shiftLeft_seven_toNat, Nat.or_comm, Nat.add_comm]
  exact (Nat.two_pow_add_eq_or_of_lt low _).symm

/-! ### The functions of the rules -/

/-- R180. -/
theorem shiftLeft_eq_aslFun : shiftLeft v c = aslFun v c := by
  refine Prod.ext (BitVec.eq_of_toNat_eq ?_) (bit7_eq_decide v)
  rw [shiftLeft, aslFun, shiftLeft_one_toNat, BitVec.toNat_ofNat]
  omega

/-- R181. -/
theorem shiftRight_eq_lsrFun : shiftRight v c = lsrFun v c := by
  refine Prod.ext (BitVec.eq_of_toNat_eq ?_) (bit0_eq_decide v)
  rw [shiftRight, lsrFun, shiftRight_one_toNat, BitVec.toNat_ofNat]
  omega

/-- R182. -/
theorem rotateLeft_eq_rolFun : rotateLeft v c = rolFun v c := by
  have := bit_lt_two c
  refine Prod.ext (BitVec.eq_of_toNat_eq ?_) (bit7_eq_decide v)
  rw [rotateLeft, rolFun, shiftLeft_or_carry_toNat, BitVec.toNat_ofNat]
  omega

/-- R183. -/
theorem rotateRight_eq_rorFun : rotateRight v c = rorFun v c := by
  have := bit_lt_two c
  refine Prod.ext (BitVec.eq_of_toNat_eq ?_) (bit0_eq_decide v)
  rw [rotateRight, rorFun, shiftRight_or_carry_toNat, BitVec.toNat_ofNat]
  omega

end

/-! ### ASL, LSR, ROL and ROR -/

theorem setCNZ_eq_shiftFlags (r : Byte) (c : Bool) (s : State) : setCNZ r c s = shiftFlags r c s := rfl

theorem shiftA_eq_shiftFlags (f : Byte → Bool → Byte × Bool) (s : State) :
    shiftA f s = shiftFlags (f s.a s.p.c).1 (f s.a s.p.c).2 { s with a := (f s.a s.p.c).1 } := rfl

/-- An accumulator form of the implied shape of `shiftA`, whatever the shift. -/
theorem accumulatorForm_of_shiftA {op : Byte} {i : Instr} {base : Nat} {f : Byte → Bool → Byte × Bool}
    (opcode : i.opcode = op) (meaning : ∀ s, exec i s = impliedClass (shiftA f) base s) :
    ImpliedForm op i base
      (fun s => shiftFlags (f s.a s.p.c).1 (f s.a s.p.c).2 { s with a := (f s.a s.p.c).1 }) :=
  impliedForm_of_impliedClass (shiftA_sameFlow f) (shiftA_eq_shiftFlags f) opcode meaning

/-- A memory form of the read-modify-write shape of the flags of a shift, whatever the shift. -/
theorem shiftForm_of_rmwClass {β : Type} {op : Byte} {mk : β → Instr} {mode : β → MemMode} {len base : Nat}
    {f : Byte → Bool → Byte × Bool}
    (arm : ∀ b s, (mk b).opcode = op ∧ memLength (mode b) = len ∧ exec (mk b) s = rmwClass f setCNZ (mode b) base s) :
    RmwForm op mk mode len base f shiftFlags :=
  rmwForm_of_rmwClass (effectOf_keepsFlow .asl) (fun _ s => setCNZ_eq_shiftFlags _ _ s) arm

/-- Settles O27: each claimed shift is the model's own, and every form is the accumulator or the read-modify-write shape
of that shift. -/
theorem shiftsEveryForm : Obligations.ShiftsEveryForm := by
  unfold Obligations.ShiftsEveryForm
  rw [← funext₂ shiftLeft_eq_aslFun, ← funext₂ shiftRight_eq_lsrFun, ← funext₂ rotateLeft_eq_rolFun,
    ← funext₂ rotateRight_eq_rorFun]
  refine ⟨?_, accumulatorForm_of_shiftA rfl fun _ => rfl, ?_, ?_, ?_,
    ?_, accumulatorForm_of_shiftA rfl fun _ => rfl, ?_, ?_, ?_,
    ?_, accumulatorForm_of_shiftA rfl fun _ => rfl, ?_, ?_, ?_,
    ?_, accumulatorForm_of_shiftA rfl fun _ => rfl, ?_, ?_, ?_⟩
  all_goals exact shiftForm_of_rmwClass fun _ _ => ⟨rfl, rfl, rfl⟩

end Sys2Proof.Machine
end

section
/-! PROOFS. The bytes the stack instructions move, in the claims' words, and with them PHA, PHP, PLA and PLP
(spec/44_stack.md R190 to R193). -/

namespace Sys2Proof.Machine

open Sys2Proof.Claims

/-- The status byte that PHP and BRK save (R191, R204): the layout of R27 with bits 5 and 4 set. -/
theorem Flags.pushed_eq_statusByte (f : Flags) : f.pushed = statusByte f ||| 0x30 := by
  rw [Flags.pushed, f.encode_eq_statusByte]

section
variable (s : State)

theorem pullToA_eq : pullToA s =
    { pulled s with a := stackByte s (s.sp + 1), p := nz (stackByte s (s.sp + 1)) s.p } := by
  rw [pullToA, setA_eq, pull_snd_p, pull_eq_pulled]

theorem pullToP_eq : pullToP s = { pulled s with p := restored (stackByte s (s.sp + 1)) s.p } := by
  rw [pullToP, s.p.restore_eq_restored, pull_eq_pulled]

end

/-- Settles O28: every form is the implied shape of its mnemonic's effect, which is one push or one pull. -/
theorem pushesAndPulls : Obligations.PushesAndPulls := by
  refine ⟨impliedForm_of_impliedClass (effectOf_keepsFlow .pha) (fun s => push_eq_pushed s.a s) rfl fun _ => rfl,
    impliedForm_of_impliedClass (effectOf_keepsFlow .php) (fun s => ?php) rfl fun _ => rfl,
    impliedForm_of_impliedClass (effectOf_keepsFlow .pla) pullToA_eq rfl fun _ => rfl,
    impliedForm_of_impliedClass (effectOf_keepsFlow .plp) pullToP_eq rfl fun _ => rfl⟩
  case php => rw [push_eq_pushed, s.p.pushed_eq_statusByte]

end Sys2Proof.Machine
end

section
/-! PROOFS. Subroutines and the trap (spec/45_control_flow.md R202 to R205, spec/60_exceptions.md R262, R263): the
words that calls save and returns take back, in the claims' words, and with them JSR, RTS, BRK and RTI. -/

namespace Sys2Proof.Machine

open Sys2Proof.Claims

theorem exec_jsr (w : Addr) (s : State) : exec (.jsr w) s = .next (spend 6 (jumpTo w (pushWord (s.pc + 2) s))) := rfl

theorem exec_rts (s : State) : exec .rts s = .next (spend 6 (jumpTo ((pullWord s).1 + 1) (pullWord s).2)) := rfl

theorem exec_rti (s : State) : exec .rti s = .next (spend 6 (returnFromBreak s)) := rfl

theorem exec_brk_of_ok {s t : State} (entered : takeBreak s = .ok t) : exec .brk s = .next (spend 7 t) := by
  rw [show exec .brk s = toResult ((takeBreak s).map (spend 7)) from rfl, entered]; rfl

/-! ### The saved and the restored word -/

theorem lo_eq_ofNat (w : Addr) : lo w = BitVec.ofNat 8 (w.toNat % 256) := by
  rw [← lo_toNat, BitVec.ofNat_toNat, BitVec.setWidth_eq]

theorem hi_eq_ofNat (w : Addr) : hi w = BitVec.ofNat 8 (w.toNat / 256) := by
  rw [← hi_toNat, BitVec.ofNat_toNat, BitVec.setWidth_eq]

/-- The return address that JSR and BRK save (R202, R204). -/
theorem addr_add_two_eq_ofNat (w : Addr) : w + 2 = BitVec.ofNat 16 ((w.toNat + 2) % 65536) := by bv_omega

/-- The address after the saved one, where RTS goes (R203). -/
theorem ofNat_add_one_eq_ofNat (n : Nat) : BitVec.ofNat 16 n + 1 = BitVec.ofNat 16 ((n + 1) % 65536) := by bv_omega

section
variable (s : State)

/-- Two pushes, the high byte first (R51, R202). -/
theorem pushWord_eq_pushed (w : Addr) : pushWord w s =
    pushed (BitVec.ofNat 8 (w.toNat % 256)) (pushed (BitVec.ofNat 8 (w.toNat / 256)) s) := by
  rw [pushWord, push_eq_pushed, push_eq_pushed, lo_eq_ofNat, hi_eq_ofNat]

@[simp] theorem pulled_sp : (pulled s).sp = s.sp + 1 := rfl

/-- A pull leaves the stack's bytes in place (R63). -/
@[simp] theorem stackByte_pulled (sp : Byte) : stackByte (pulled s) sp = stackByte s sp := rfl

/-- Two pulls, the low byte first (R203). -/
theorem pullWord_eq_pulled : pullWord s =
    (BitVec.ofNat 16 (wordValue (stackByte s (s.sp + 1)) (stackByte s (s.sp + 2))), pulled (pulled s)) := by
  rw [pullWord, pull_eq_pulled]
  dsimp only
  rw [pull_eq_pulled, word_eq_ofNat_wordValue, stackByte_pulled, pulled_sp, BitVec.add_assoc]
  rfl

end

/-! ### The four instructions -/

/-- Settles O30: JSR saves one word before its jump, and RTS takes one back and goes past it. -/
theorem jsrAndRts : Obligations.JsrAndRts := by
  refine ⟨fun w s => ⟨rfl, ?call⟩, fun s => ⟨rfl, ?ret⟩⟩
  case call => rw [exec_jsr, pushWord_eq_pushed, addr_add_two_eq_ofNat]; rfl
  case ret => rw [exec_rts, pullWord_eq_pulled, ofNat_add_one_eq_ofNat]; rfl

/-- Settles O31: trap entry completes in every state, and the word and the status byte it saves are the claimed ones. -/
theorem brkTakesTheTrap : Obligations.BrkTakesTheTrap := by
  intro s
  refine ⟨rfl, ?_⟩
  intro ret saved l h
  have saves : push s.p.pushed (pushWord (s.pc + 2) s) = saved := by
    rw [push_eq_pushed, s.p.pushed_eq_statusByte, pushWord_eq_pushed, addr_add_two_eq_ofNat]
  have keepsCyc : s.cyc = saved.cyc := rfl
  rw [exec_brk_of_ok (takeBreak_eq s), saves, word_eq_ofNat_wordValue, touch_eq_seen, touch_eq_seen, keepsCyc]
  rfl

/-- Settles O32: trap return is one pull into the status and a word pulled into PC. -/
theorem rtiReturnsFromTheTrap : Obligations.RtiReturnsFromTheTrap := by
  intro s
  refine ⟨rfl, ?_⟩
  rw [exec_rti, returnFromBreak_eq, pull_eq_pulled]
  dsimp only
  rw [pullWord_eq_pulled, s.p.restore_eq_restored, pulled_sp, stackByte_pulled, stackByte_pulled, BitVec.add_assoc,
    BitVec.add_assoc]
  rfl

end Sys2Proof.Machine
end

section
/-! PROOFS. The one-byte forms of the claims from the model's tables (`effectOf` and the instruction's row), and with them
the flag instructions and NOP (spec/46_flag_misc.md R220 to R227). -/

namespace Sys2Proof.Machine

open Sys2Proof.Claims

/-- An instruction without an operand, whose mnemonic has an implied effect, has the claimed form at its row's opcode and
cost. -/
theorem impliedForm_of_effectOf {i : Instr} {op : Byte} {base : Nat} {eff : State → State}
    (effect : effectOf i.mnemonic = .implied eff) (operand : i.operand = .implied) (opcode : i.opcode = op)
    (cost : i.row.baseCycles = base) : ImpliedForm op i base eff := by
  have keeps : (Effect.implied eff).KeepsFlow := effect ▸ effectOf_keepsFlow i.mnemonic
  refine impliedForm_of_impliedClass keeps (fun _ => rfl) opcode fun s => ?meaning
  case meaning =>
    have table := exec_of_effect i s
    rw [effect, operand, cost] at table
    exact (Option.some.inj table).symm

/-- Settles O34: the claimed write of one flag, or of none, is the effect of each mnemonic in the model's table. -/
theorem flagInstructionsAndNop : Obligations.FlagInstructionsAndNop := by
  refine ⟨?clc, ?sec, ?cli, ?sei, ?cld, ?sed, ?clv, ?nop⟩
  all_goals exact impliedForm_of_effectOf rfl rfl rfl rfl

end Sys2Proof.Machine
end

section
/-! PROOFS. *NOP, and the unofficial instructions that combine two official ones (spec/47_unofficial.md R231, R235 to
R240): their second operations in the words of the claims, and their forms from the model's table. -/

namespace Sys2Proof.Machine

open Sys2Proof.Claims

/-! ### *NOP -/

/-- The memory and immediate forms of *NOP drop their operand (R231). -/
theorem discard_eq : discard = fun _ t => t := rfl

/-- An implied form that does nothing but end. -/
theorem impliedForm_of_id {op : Byte} {i : Instr} {base : Nat} (opcode : i.opcode = op)
    (meaning : ∀ s, exec i s = impliedClass id base s) : ImpliedForm op i base (fun t => t) :=
  impliedForm_of_impliedClass (fun _ => ⟨rfl, rfl⟩) id_eq opcode meaning

/-- Settles O35: the memory forms are the read shape of the effect that drops its operand, and the implied forms do
nothing but end. -/
theorem unofficialNopsEveryForm : Obligations.UnofficialNopsEveryForm := by
  unfold Obligations.UnofficialNopsEveryForm
  rw [← discard_eq]
  have keeps : ∀ v s, SameFlow s (discard v s) := effectOf_keepsFlow .uNop
  refine ⟨?_, ?_, ?_, impliedForm_of_id rfl fun _ => rfl, ?_, ?_, impliedForm_of_id rfl fun _ => rfl, ?_, ?_, ?_,
    impliedForm_of_id rfl fun _ => rfl, ?_, ?_, ?_, impliedForm_of_id rfl fun _ => rfl, ?_,
    immediateForm_of_immediateClass keeps fun _ _ => ⟨rfl, rfl⟩, ?_, impliedForm_of_id rfl fun _ => rfl, ?_, ?_,
    impliedForm_of_id rfl fun _ => rfl, ?_⟩
  all_goals exact readForm_of_readClass keeps fun _ _ => ⟨rfl, rfl, rfl⟩

/-! ### The second halves of the read-modify-write instructions -/

/-- *DCP: the carry handed through is not used, and the compare overwrites N, Z and C (R235). -/
theorem thenCompare_eq : thenCompare = fun r _ t => { t with p := compareFlags t.a r t.p } := by
  funext r _ t
  exact compareA_eq r t

/-- *ISB: the borrow is the old carry, which INC leaves (R236). -/
theorem thenSub_eq : thenSub = fun r _ t => sbcEff r t := by
  funext r _ t
  exact subFromA_eq_sbcEff r t

/-- *SLO (R237). -/
theorem thenOr_eq : thenOr = fun r c t => loadAC (t.a ||| r) c t := by
  funext r c t
  exact orA_eq r (setC c t)

/-- *RLA (R238). -/
theorem thenAnd_eq : thenAnd = fun r c t => loadAC (t.a &&& r) c t := by
  funext r c t
  exact andA_eq r (setC c t)

/-- *SRE (R239). -/
theorem thenEor_eq : thenEor = fun r c t => loadAC (t.a ^^^ r) c t := by
  funext r c t
  exact eorA_eq r (setC c t)

/-- *RRA: the carry out of the rotate is the carry into the sum (R240). -/
theorem thenAdd_eq : thenAdd = fun r c t => adcEff r { t with p := { t.p with c := c } } := by
  funext r c t
  exact addToA_eq_adcEff r (setC c t)

/-! ### From a row of the table to the read-modify-write form -/

/-- A memory form, whose mnemonic has a read-modify-write effect, has the claimed form at its row's opcode and cost,
without a page-cross cycle (R230). -/
theorem rmwForm_of_row {β : Type} {op : Byte} {mk : β → Instr} {mode : β → MemMode} {len base : Nat} {m : Mnemonic}
    {f : Byte → Bool → Byte × Bool} {eff : Byte → Bool → State → State}
    (row : ∀ b, (mk b).row = ⟨op, m, .memory (mode b), base, false⟩) (length : ∀ b, memLength (mode b) = len)
    (effect : effectOf m = .rmw f eff) : RmwForm op mk mode len base f eff := by
  have keeps : (Effect.rmw f eff).KeepsFlow := effect ▸ effectOf_keepsFlow m
  refine rmwForm_of_rmwClass keeps (fun _ _ => rfl) fun b s => ⟨?opcode, length b, ?meaning⟩
  case opcode => rw [Instr.opcode, row]
  case meaning =>
    have table := exec_of_effect (mk b) s
    rw [Instr.mnemonic, Instr.operand, row, effect] at table
    exact (Option.some.inj table).symm

/-- Settles O36: every form is the read-modify-write shape of the decrement and the compare, or of the increment and the
subtraction with borrow. -/
theorem dcpAndIsbEveryForm : Obligations.DcpAndIsbEveryForm := by
  unfold Obligations.DcpAndIsbEveryForm
  rw [← funext₂ decByte_eq, ← funext₂ incByte_eq, ← thenCompare_eq, ← thenSub_eq]
  refine ⟨?_, ?_, ?_, ?_, ?_, ?_, ?_, ?_, ?_, ?_, ?_, ?_, ?_, ?_⟩
  all_goals exact rmwForm_of_row (fun _ => rfl) (fun _ => rfl) rfl

/-- Settles O37: every form is the read-modify-write shape of a shift of the rules and of what combines the shifted byte
into A. -/
theorem shiftCompositesEveryForm : Obligations.ShiftCompositesEveryForm := by
  unfold Obligations.ShiftCompositesEveryForm
  rw [← funext₂ shiftLeft_eq_aslFun, ← funext₂ shiftRight_eq_lsrFun, ← funext₂ rotateLeft_eq_rolFun,
    ← funext₂ rotateRight_eq_rorFun, ← thenOr_eq, ← thenAnd_eq, ← thenEor_eq, ← thenAdd_eq]
  refine ⟨?_, ?_, ?_, ?_, ?_, ?_, ?_, ?_, ?_, ?_, ?_, ?_, ?_, ?_, ?_, ?_, ?_, ?_, ?_, ?_, ?_, ?_, ?_, ?_, ?_, ?_, ?_, ?_⟩
  all_goals exact rmwForm_of_row (fun _ => rfl) (fun _ => rfl) rfl

end Sys2Proof.Machine
end

section
/-! PROOFS. What every instruction keeps, said once over the shapes of `runEffect`: a property of the state that the bus
reads, the stores, the effect of the mnemonic and the end of the instruction all keep is kept by the instruction. -/

namespace Sys2Proof.Machine

open Sys2Proof.Claims

/-- The property outlasts what any instruction may do apart from its stores and its effect. -/
structure Stable (P : State → Prop) : Prop where
  read  : ∀ {a : Addr} {v : Byte} {t u : State}, busRead a t = .ok (v, u) → P t → P u
  touch : ∀ {t : State} (a : Addr), P t → P (touch a t)
  spend : ∀ {t : State} (n : Nat), P t → P (spend n t)
  jump  : ∀ {t : State} (a : Addr), P t → P (jumpTo a t)

/-- The effect, in a mode and from the state an instruction begins in, keeps the property. -/
def Effect.Keeps (P : State → Prop) (o : Operand) (s : State) : Effect → Prop
  | .read eff => ∀ v t, P t → P (eff v t)
  | .rmw op eff => (∀ v t, P t → P (eff (op v s.p.c).1 (op v s.p.c).2 t)) ∧ (o = .accumulator → P (shiftA op s))
  | .implied eff => P (eff s)
  | .call => P (pushWord (s.pc + 2) s)
  | .ret => P (pullWord s).2
  | .trapReturn => P (returnFromBreak s)
  | .trap => ∀ t, takeBreak s = .ok t → P t
  | .store _ | .branch _ | .jump => True

/-- The effects that write at the effective address. -/
def Effect.stores : Effect → Bool
  | .store _ | .rmw _ _ => true
  | _ => false

/-- Writes at the effective address of `s`, by an effect that stores there, keep the property. -/
def StoresKeep (P : State → Prop) (e : Effect) (o : Operand) (s : State) : Prop :=
  ∀ m, e.stores = true → o = .memory m → ∀ v t u, busWrite (effAddress m s) v t = .ok u → P t → P u

section
variable {P : State → Prop} {e : Effect} {o : Operand} {base : Nat} {eligible : Bool} {m : MemMode} {s t u : State}

theorem Stable.finish (stable : Stable P) (length cost : Nat) (h : P t) : P (finish length cost t) :=
  stable.spend _ (stable.jump _ h)

theorem Stable.afterPointer (stable : Stable P) (m : MemMode) (h : P s) : P (afterPointer m s) := by
  cases m with
  | indexedIndirectX z => exact stable.touch _ (stable.touch _ h)
  | indirectIndexedY z => exact stable.touch _ (stable.touch _ h)
  | _ => exact h

theorem Stable.readOperand {v : Byte} (stable : Stable P) (read : readOperand m s = .ok (v, t)) (h : P s) : P t :=
  stable.read read (stable.afterPointer m h)

theorem branchClass_keeps {cond : Flags → Bool} {off : Byte} (stable : Stable P) (start : P s)
    (h : branchClass cond off base s = .next t) : P t := by
  unfold branchClass at h
  split at h
  · cases h; exact stable.spend _ (stable.jump _ start)
  · cases h; exact stable.finish _ _ start

/-- Every shape of `runEffect`, in the order of its arms. -/
theorem runEffect_keeps (stable : Stable P) (start : P s) (writes : StoresKeep P e o s) (keeps : e.Keeps P o s)
    (h : runEffect e o base eligible s = some (.next t)) : P t := by
  unfold runEffect at h
  split at h <;> simp only [Option.some.injEq, reduceCtorEq] at h
  · next eff m =>
    obtain ⟨v, u, read, rfl⟩ := readClass_next h
    exact stable.finish _ _ (keeps v u (stable.readOperand read start))
  · next eff v => cases h; exact stable.finish _ _ (keeps v s start)
  · cases h; exact stable.finish _ _ start
  · next value m =>
    obtain ⟨u, written, rfl⟩ := storeClass_next h
    exact stable.finish _ _ (writes m rfl rfl _ _ _ written (stable.afterPointer m start))
  · next op eff m =>
    obtain ⟨v, u, w, read, written, rfl⟩ := rmwClass_next h
    exact stable.finish _ _ (keeps.1 v w (writes m rfl rfl _ _ _ written (stable.readOperand read start)))
  · cases h; exact stable.finish _ _ (keeps.2 rfl)
  · cases h; exact stable.finish _ _ keeps
  · exact branchClass_keeps stable start h
  · cases h; exact stable.spend _ (stable.jump _ start)
  · next w =>
    split at h
    · cases h
    · next target u resolved =>
      cases h
      obtain ⟨-, -, l, k, v, low, high, -⟩ := readPair_next resolved
      exact stable.spend _ (stable.jump _ (stable.read high (stable.read low start)))
  · cases h; exact stable.spend _ (stable.jump _ keeps)
  · cases h; exact stable.spend _ (stable.jump _ keeps)
  · cases h; exact stable.spend _ keeps
  · rw [takeBreak_eq] at h
    cases h
    exact stable.spend _ (keeps _ (takeBreak_eq s))

theorem exec_keeps {i : Instr} (stable : Stable P) (start : P s)
    (writes : StoresKeep P (effectOf i.mnemonic) i.operand s) (keeps : (effectOf i.mnemonic).Keeps P i.operand s)
    (h : exec i s = .next t) : P t :=
  runEffect_keeps stable start writes keeps ((exec_of_effect i s).trans (congrArg some h))

end

/-! ### The effects, for a property that registers and flags have no part in -/

/-- The property does not depend on A, X, Y, SP and the status flags. -/
def RegisterFree (P : State → Prop) : Prop :=
  ∀ (t : State) (a x y sp : Byte) (p : Flags), P t → P { t with a := a, x := x, y := y, sp := sp, p := p }

section
variable {P : State → Prop} {m : Mnemonic} {o : Operand} {s t : State}

/-- Apart from the four mnemonics that push, an effect changes registers and flags, after the reads of its pulls. -/
theorem effectOf_keeps (stable : Stable P) (registers : RegisterFree P) (start : P s)
    (noPush : m ∉ [.pha, .php, .jsr, .brk]) : (effectOf m).Keeps P o s := by
  have pulled {t : State} (h : P t) : P (pull t).2 := registers _ _ _ _ _ _ (stable.touch _ h)
  cases m
  case pha | php | jsr | brk => simp at noPush
  case pla | plp => exact registers _ _ _ _ _ _ (pulled start)
  case rts => exact pulled (pulled start)
  case rti => exact stable.jump _ (pulled (pulled (registers _ _ _ _ _ _ (pulled start))))
  case tax | tay | txa | tya | tsx | txs | inx | iny | dex | dey | clc | sec | cli | sei | cld | sed | clv | nop =>
    exact registers _ _ _ _ _ _ start
  case asl | lsr | rol | ror | inc | dec | dcp | isb | slo | rla | sre | rra =>
    exact ⟨fun _ t h => registers t _ _ _ _ _ h, fun _ => registers s _ _ _ _ _ start⟩
  case sta | stx | sty | sax | bcc | bcs | beq | bne | bmi | bpl | bvc | bvs | jmp => trivial
  all_goals exact fun _ t h => registers t _ _ _ _ _ h

/-- If pushes keep the property too, every effect does. -/
theorem effectOf_keeps_of_push (stable : Stable P) (registers : RegisterFree P)
    (push : ∀ {t : State} (v : Byte), P t → P (push v t)) (start : P s) : (effectOf m).Keeps P o s := by
  have pushWord {t : State} (w : Addr) (h : P t) : P (pushWord w t) := push _ (push _ h)
  cases m
  case pha | php => exact push _ start
  case jsr => exact pushWord _ start
  case brk =>
    intro t entered
    simp only [takeBreak, read16_brkVector] at entered
    cases entered
    have saved : P (Machine.push s.p.pushed (Machine.pushWord (s.pc + 2) s)) := push _ (pushWord _ start)
    exact stable.jump _ (stable.touch _ (stable.touch _ (registers _ _ _ _ _ _ saved)))
  all_goals exact effectOf_keeps stable registers start (by simp)

end

end Sys2Proof.Machine
end

section
/-! PROOFS. The frame of every instruction (spec/10_state.md R21 to R43, section 7): configuration, debug state and PPU
history, and which instruction writes which register and flag. -/

namespace Sys2Proof.Machine

open Sys2Proof.Claims

/-! ### Configuration, debug state and history -/

/-- What no instruction changes, and the two things an instruction only adds to. -/
structure ExecFrame (s t : State) : Prop where
  prg         : t.prg = s.prg
  params      : t.params = s.params
  breakpoints : t.breakpoints = s.breakpoints
  watchpoints : t.watchpoints = s.watchpoints
  status      : t.status = s.status
  trace       : t.trace = s.trace
  history     : ∃ es, t.busHistory = s.busHistory ++ es ∧ t.ppuChoice = s.ppuChoice + drawsIn es
  hit         : s.watchHit = true → t.watchHit = true

section
variable {s t u : State}

theorem ExecFrame.refl (s : State) : ExecFrame s s :=
  ⟨rfl, rfl, rfl, rfl, rfl, rfl, ⟨[], by simp, by simp [drawsIn]⟩, id⟩

theorem ExecFrame.bus (h : ExecFrame s t) (k : BusFrame t u) : ExecFrame s u where
  prg := by rw [k.same]; exact h.prg
  params := by rw [k.same]; exact h.params
  breakpoints := by rw [k.same]; exact h.breakpoints
  watchpoints := by rw [k.same]; exact h.watchpoints
  status := by rw [k.same]; exact h.status
  trace := by rw [k.same]; exact h.trace
  history := by
    obtain ⟨es, events, draws⟩ := h.history
    obtain ⟨fs, moreEvents, moreDraws⟩ := k.history
    exact ⟨es ++ fs, by rw [moreEvents, events, List.append_assoc],
      by rw [moreDraws, draws, drawsIn_append, Nat.add_assoc]⟩
  hit := k.hit ∘ h.hit

/-- Registers, flags, PC, CYC and WRAM are no part of the frame. -/
theorem ExecFrame.of_same (h : ExecFrame s t) (same : u = { t with
    pc := u.pc, a := u.a, x := u.x, y := u.y, sp := u.sp, p := u.p, cyc := u.cyc, wram := u.wram }) :
    ExecFrame s u := by
  rw [same]
  exact ⟨h.prg, h.params, h.breakpoints, h.watchpoints, h.status, h.trace, h.history, h.hit⟩

theorem ExecFrame.stable (s : State) : Stable (ExecFrame s) where
  read := fun read h => h.bus (BusFrame.read read).1
  touch := fun a h => h.bus (.touch a _)
  spend := fun _ h => h.of_same rfl
  jump := fun _ h => h.of_same rfl

theorem ExecFrame.registerFree (s : State) : RegisterFree (ExecFrame s) := fun _ _ _ _ _ _ h => h.of_same rfl

theorem ExecFrame.push (v : Byte) (h : ExecFrame s t) : ExecFrame s (push v t) := (h.bus (.touch _ t)).of_same rfl

theorem exec_frame {i : Instr} (h : exec i s = .next t) : ExecFrame s t :=
  exec_keeps (ExecFrame.stable s) (.refl s) (fun _ _ _ _ _ _ written k => k.bus (.write written))
    (effectOf_keeps_of_push (ExecFrame.stable s) (ExecFrame.registerFree s) ExecFrame.push (.refl s)) h

end

/-- Settles O41: every clause is a part of the frame that the shapes, the effects and the bus keep. -/
theorem executionLeavesConfigurationAndDebugState : Obligations.ExecutionLeavesConfigurationAndDebugState := by
  intro i s t h
  have frame := exec_frame h
  obtain ⟨es, events, -⟩ := frame.history
  exact ⟨frame.prg, frame.params, frame.breakpoints, frame.watchpoints, frame.status, frame.trace, ⟨es, events⟩, frame.hit⟩

/-! ### Registers and flags -/

/-- The value is read from A, X, Y, SP and the status flags alone, which no bus access and no end of an instruction
changes. -/
def OfRegisters {β : Type} (f : State → β) : Prop :=
  ∀ t, f { State.reset with a := t.a, x := t.x, y := t.y, sp := t.sp, p := t.p } = f t

section
variable {β : Type} {f : State → β} {s t : State} {i : Instr}

theorem OfRegisters.bus (sees : OfRegisters f) (h : BusFrame s t) : f t = f s := by
  rw [← sees t, ← sees s, h.same]

theorem OfRegisters.stable (sees : OfRegisters f) (s : State) : Stable (fun t => f t = f s) where
  read := fun read h => (sees.bus (BusFrame.read read).1).trans h
  touch := fun a h => (sees.bus (.touch a _)).trans h
  spend := fun n h => by rw [← sees] at h ⊢; exact h
  jump := fun a h => by rw [← sees] at h ⊢; exact h

/-- An instruction changes a register or a flag only by the effect of its mnemonic. -/
theorem exec_register (sees : OfRegisters f)
    (keeps : (effectOf i.mnemonic).Keeps (fun t => f t = f s) i.operand s) (h : exec i s = .next t) : f t = f s :=
  exec_keeps (sees.stable s) rfl (fun _ _ _ _ _ _ written k => (sees.bus (.write written)).trans k) keeps h

end

theorem pushWord_sp (w : Addr) (s : State) : (pushWord w s).sp = s.sp - 2 := by
  show s.sp - 1 - 1 = s.sp - 2
  bv_omega

/-! The effects that are built from others, in terms of the basic ones whose fields `simp` knows. -/

section
variable (v r : Byte) (c : Bool) (s : State)

@[simp] theorem subFromA_eq_addToA : subFromA v s = addToA (~~~v) s := rfl
@[simp] theorem andA_eq_setA : andA v s = setA (s.a &&& v) s := rfl
@[simp] theorem orA_eq_setA : orA v s = setA (s.a ||| v) s := rfl
@[simp] theorem eorA_eq_setA : eorA v s = setA (s.a ^^^ v) s := rfl
@[simp] theorem discard_eq_self : discard v s = s := rfl
@[simp] theorem thenCompare_eq_compareA : thenCompare r c s = compareA r s := rfl
@[simp] theorem thenSub_eq_addToA : thenSub r c s = addToA (~~~r) s := rfl
@[simp] theorem thenOr_eq_setA : thenOr r c s = setA (s.a ||| r) (setC c s) := rfl
@[simp] theorem thenAnd_eq_setA : thenAnd r c s = setA (s.a &&& r) (setC c s) := rfl
@[simp] theorem thenEor_eq_setA : thenEor r c s = setA (s.a ^^^ r) (setC c s) := rfl
@[simp] theorem thenAdd_eq_addToA : thenAdd r c s = addToA r (setC c s) := rfl
@[simp] theorem shiftA_eq_setCNZ (op : Byte → Bool → Byte × Bool) :
    shiftA op s = setCNZ (op s.a s.p.c).1 (op s.a s.p.c).2 { s with a := (op s.a s.p.c).1 } := rfl
@[simp] theorem pullToA_eq_setA : pullToA s = setA (pull s).1 (pull s).2 := rfl
@[simp] theorem pullToP_eq_restore : pullToP s = { (pull s).2 with p := s.p.restore (pull s).1 } := rfl
@[simp] theorem pushWord_eq_push (w : Addr) : pushWord w s = push (lo w) (push (hi w) s) := rfl
@[simp] theorem pullWord_snd_eq_pull : (pullWord s).2 = (pull (pull s).2).2 := rfl

end

/-! The tables: an effect outside the list of a register or a flag keeps it (R21 to R24, R30 to R37). -/

section
variable {i : Instr} (s : State)

/-- Only the four shifts have an accumulator form (R101). -/
theorem mnemonic_of_accumulator : i.operand = .accumulator → i.mnemonic ∈ [.asl, .lsr, .rol, .ror] := by
  cases i <;> exact of_decide_eq_true rfl

theorem effectOf_keeps_a (h : ¬ writesA i) : (effectOf i.mnemonic).Keeps (fun t => t.a = s.a) i.operand s := by
  have memoryForm : i.operand ≠ .accumulator :=
    fun acc => h (.inr ⟨mnemonic_of_accumulator acc, congrArg Operand.mode acc⟩)
  revert h
  unfold writesA
  cases i.mnemonic <;> simp [effectOf, Effect.Keeps, returnFromBreak_eq, takeBreak_eq, memoryForm]

theorem effectOf_keeps_x (h : ¬ writesX i) : (effectOf i.mnemonic).Keeps (fun t => t.x = s.x) i.operand s := by
  revert h
  unfold writesX
  cases i.mnemonic <;> simp [effectOf, Effect.Keeps, returnFromBreak_eq, takeBreak_eq]

theorem effectOf_keeps_y (h : ¬ writesY i) : (effectOf i.mnemonic).Keeps (fun t => t.y = s.y) i.operand s := by
  revert h
  unfold writesY
  cases i.mnemonic <;> simp [effectOf, Effect.Keeps, returnFromBreak_eq, takeBreak_eq]

theorem effectOf_keeps_sp (h : ¬ writesSP i) : (effectOf i.mnemonic).Keeps (fun t => t.sp = s.sp) i.operand s := by
  revert h
  unfold writesSP
  cases i.mnemonic <;> simp [effectOf, Effect.Keeps]

theorem effectOf_keeps_nz (h : ¬ writesNZ i) :
    (effectOf i.mnemonic).Keeps (fun t => (t.p.n, t.p.z) = (s.p.n, s.p.z)) i.operand s := by
  revert h
  unfold writesNZ usesSetNZ
  cases i.mnemonic <;> simp [effectOf, Effect.Keeps, takeBreak_eq]

theorem effectOf_keeps_v (h : ¬ writesV i) : (effectOf i.mnemonic).Keeps (fun t => t.p.v = s.p.v) i.operand s := by
  revert h
  unfold writesV
  cases i.mnemonic <;> simp [effectOf, Effect.Keeps, Flags.setNZ, Flags.compare, takeBreak_eq]

theorem effectOf_keeps_d (h : ¬ writesD i) : (effectOf i.mnemonic).Keeps (fun t => t.p.d = s.p.d) i.operand s := by
  revert h
  unfold writesD
  cases i.mnemonic <;> simp [effectOf, Effect.Keeps, Flags.setNZ, Flags.compare, Flags.add, Flags.bitTest, takeBreak_eq]

theorem effectOf_keeps_i (h : ¬ writesI i) : (effectOf i.mnemonic).Keeps (fun t => t.p.i = s.p.i) i.operand s := by
  revert h
  unfold writesI
  cases i.mnemonic <;> simp [effectOf, Effect.Keeps, Flags.setNZ, Flags.compare, Flags.add, Flags.bitTest]

theorem effectOf_keeps_c (h : ¬ writesC i) : (effectOf i.mnemonic).Keeps (fun t => t.p.c = s.p.c) i.operand s := by
  revert h
  unfold writesC
  cases i.mnemonic <;> simp [effectOf, Effect.Keeps, Flags.setNZ, Flags.bitTest, incByte, decByte, takeBreak_eq]

theorem effectOf_keeps_b (m : Mnemonic) (o : Operand) :
    (effectOf m).Keeps (fun t => (t.p.bh, t.p.bl) = (s.p.bh, s.p.bl)) o s := by
  cases m <;> simp [effectOf, Effect.Keeps, Flags.setNZ, Flags.compare, Flags.add, Flags.bitTest, Flags.restore,
    returnFromBreak_eq, takeBreak_eq]

end

/-- Settles O39: each register is kept by the effect of every mnemonic outside its written-by list. -/
theorem registersChangeOnlyByTheirWriters : Obligations.RegistersChangeOnlyByTheirWriters := fun _ s _ h =>
  ⟨fun outside => exec_register (fun _ => rfl) (effectOf_keeps_a s outside) h,
    fun outside => exec_register (fun _ => rfl) (effectOf_keeps_x s outside) h,
    fun outside => exec_register (fun _ => rfl) (effectOf_keeps_y s outside) h,
    fun outside => exec_register (fun _ => rfl) (effectOf_keeps_sp s outside) h⟩

/-- No instruction changes Bh or Bl (R32, R33). -/
theorem exec_b {i : Instr} {s t : State} (h : exec i s = .next t) : t.p.bh = s.p.bh ∧ t.p.bl = s.p.bl :=
  Prod.mk.inj (exec_register (f := fun t => (t.p.bh, t.p.bl)) (fun _ => rfl) (effectOf_keeps_b s _ _) h)

/-- Settles O40: each flag is kept by the effect of every mnemonic outside its list, Bh and Bl by every effect. -/
theorem flagsChangeOnlyByTheirWriters : Obligations.FlagsChangeOnlyByTheirWriters := fun _ s _ h =>
  ⟨fun outside => Prod.mk.inj (exec_register (f := fun t => (t.p.n, t.p.z)) (fun _ => rfl) (effectOf_keeps_nz s outside) h),
    fun outside => exec_register (f := fun t => t.p.v) (fun _ => rfl) (effectOf_keeps_v s outside) h,
    fun outside => exec_register (f := fun t => t.p.d) (fun _ => rfl) (effectOf_keeps_d s outside) h,
    fun outside => exec_register (f := fun t => t.p.i) (fun _ => rfl) (effectOf_keeps_i s outside) h,
    fun outside => exec_register (f := fun t => t.p.c) (fun _ => rfl) (effectOf_keeps_c s outside) h,
    exec_b h⟩

end Sys2Proof.Machine
end

section
/-! PROOFS. The memory frame of every instruction (spec/20_memory.md section 5) and the machine invariant. -/

namespace Sys2Proof.Machine

open Sys2Proof.Claims

/-! ### The peek by region, and what leaves it alone -/

section
variable {a b : Addr} {v : Byte} {s t u : State}

theorem peek_wram (h : a.toNat < 0x2000) : peek a s = some (s.wram.read (wramIndex a)) := by
  simp only [peek, region_wram h]

theorem peek_ppu (h : 0x2000 ≤ a.toNat) (h' : a.toNat < 0x4000) : peek a s = none := by
  simp only [peek, region_ppu h h']

theorem peek_apu (h : 0x4000 ≤ a.toNat) (h' : a.toNat < 0x4018) : peek a s = some 0x00 := by
  simp only [peek, region_apu h h']

theorem peek_fatal (h : 0x4018 ≤ a.toNat) (h' : a.toNat < 0x8000) : peek a s = none := by
  rcases region_fatal h h' with hr | hr <;> simp only [peek, hr]

theorem peek_prg (h : 0x8000 ≤ a.toNat) : peek a s = some (s.prg.read (prgIndex s a)) := by
  simp only [peek, region_prg h]

/-- A peek depends on the two arrays and the parameters alone (R272). -/
theorem peek_congr (wram : t.wram = s.wram) (prg : t.prg = s.prg) (params : t.params = s.params) :
    peek a t = peek a s := by
  simp only [peek, prgIndex, wram, prg, params]

theorem peek_of_busRead (h : busRead b s = .ok (v, t)) : peek a t = peek a s := by
  obtain ⟨frame, wram⟩ := BusFrame.read h
  exact peek_congr wram (by rw [frame.same]) frame.params_eq

/-- A write is seen at the storage of its address only (R69). -/
theorem peek_of_busWrite (apart : ¬ SameStorage a b) (h : busWrite b v s = .ok t) : peek a t = peek a s := by
  rcases busWrite_cases h with ⟨hb, rfl⟩ | ⟨-, -, rfl⟩ | ⟨-, rfl⟩
  · rcases region_cases a with ha | ⟨ha, ha'⟩ | ⟨ha, ha'⟩ | ⟨ha, ha'⟩ | ha
    · have index : wramIndex b ≠ wramIndex a := fun same => apart (.inr ⟨ha, hb, same.symm⟩)
      rw [peek_wram ha, peek_wram ha, Memory.read_write_other _ _ index]
    · rw [peek_ppu ha ha', peek_ppu ha ha']
    · rw [peek_apu ha ha', peek_apu ha ha']
    · rw [peek_fatal ha ha', peek_fatal ha ha']
    · rw [peek_prg ha, peek_prg ha]; rfl
  · rfl
  · rfl

theorem peek_push (apart : ¬ SameStorage a (stackAt s.sp)) : peek a (push v s) = peek a s := by
  rw [← stackAddr_eq_stackAt] at apart
  exact (peek_of_busWrite apart (push_eq_busWrite v s) :)

theorem peek_pushWord {w : Addr} (high : ¬ SameStorage a (stackAt s.sp)) (low : ¬ SameStorage a (stackAt (s.sp - 1))) :
    peek a (pushWord w s) = peek a s :=
  (peek_push (s := push (hi w) s) low).trans (peek_push high)

end

/-- Settles O16: the pull reads the index the push wrote, and only that write is seen. -/
theorem pullGivesBackWhatWasPushed : Obligations.PullGivesBackWhatWasPushed := by
  intro s v
  have restored : s.sp - 1 + 1 = s.sp := BitVec.sub_add_cancel s.sp 1
  refine ⟨?byte, restored, fun a apart => peek_push apart⟩
  case byte =>
    show (push v s).wram.read (wramIndex (stackAddr (s.sp - 1 + 1))) = v
    rw [restored, push_wram, Memory.read_write_same]

/-! ### Where an instruction stores -/

section
variable {a : Addr} {i : Instr} {s t : State}

theorem peek_stable (a : Addr) (s : State) : Stable (fun t => peek a t = peek a s) where
  read := fun read h => (peek_of_busRead read).trans h
  touch := fun _ h => h
  spend := fun _ h => h
  jump := fun _ h => h

/-- The effects that write at the effective address are those of the stores and RMW instructions. -/
theorem storesTo_of_memory {m : MemMode} (stores : (effectOf i.mnemonic).stores = true) (memory : i.operand = .memory m) :
    storesTo i s = [effAddress m s] := by
  revert stores
  unfold storesTo
  rw [memory]
  cases i.mnemonic <;> simp [effectOf, Effect.stores]

theorem peek_registerFree (a : Addr) (s : State) : RegisterFree (fun t => peek a t = peek a s) := fun _ _ _ _ _ _ h => h

/-- Apart from the stack bytes of pushes, no effect reaches memory. -/
theorem effectOf_keeps_peek (apart : ∀ b ∈ storesTo i s, ¬ SameStorage a b) :
    (effectOf i.mnemonic).Keeps (fun t => peek a t = peek a s) i.operand s := by
  cases hm : i.mnemonic
  case pha | php =>
    rw [show storesTo i s = [stackAt s.sp] by simp [storesTo, hm]] at apart
    exact peek_push (apart _ (by simp))
  case jsr =>
    rw [show storesTo i s = [stackAt s.sp, stackAt (s.sp - 1)] by simp [storesTo, hm]] at apart
    exact peek_pushWord (apart _ (by simp)) (apart _ (by simp))
  case brk =>
    rw [show storesTo i s = [stackAt s.sp, stackAt (s.sp - 1), stackAt (s.sp - 2)] by simp [storesTo, hm]] at apart
    intro t entered
    rw [takeBreak_eq] at entered
    cases entered
    exact (peek_push (v := s.p.pushed) (pushWord_sp (s.pc + 2) s ▸ apart _ (by simp))).trans
      (peek_pushWord (apart _ (by simp)) (apart _ (by simp)))
  all_goals exact effectOf_keeps (peek_stable a s) (peek_registerFree a s) rfl (by simp)

end

/-- Settles O38: the bus write of a store or RMW and the pushes are the only writes, each at a listed address. -/
theorem memoryChangesOnlyWhereAnInstructionStores : Obligations.MemoryChangesOnlyWhereAnInstructionStores := by
  intro i s t h a apart
  refine exec_keeps (peek_stable a s) rfl (fun m stores memory v t u written same => ?_) (effectOf_keeps_peek apart) h
  have address := storesTo_of_memory (s := s) stores memory
  exact (peek_of_busWrite (apart _ (by simp [address])) written).trans same

/-! ### The invariant -/

section
variable {s t u : State}

/-- WRAM is in canonical form. -/
def CanonicalWram (s : State) : Prop := s.wram.wf 2048 = true

theorem CanonicalWram.push (v : Byte) (h : CanonicalWram s) : CanonicalWram (push v s) :=
  (busWrite_wram_wf (push_eq_busWrite v s) h :)

theorem CanonicalWram.stable : Stable CanonicalWram where
  read := fun read h => by rw [CanonicalWram, (BusFrame.read read).2]; exact h
  touch := fun _ h => h
  spend := fun _ h => h
  jump := fun _ h => h

theorem CanonicalWram.registerFree : RegisterFree CanonicalWram := fun _ _ _ _ _ _ h => h

theorem exec_canonicalWram {i : Instr} (start : CanonicalWram s) (h : exec i s = .next t) : CanonicalWram t :=
  exec_keeps CanonicalWram.stable start (fun _ _ _ _ _ _ written k => busWrite_wram_wf written k)
    (effectOf_keeps_of_push CanonicalWram.stable CanonicalWram.registerFree CanonicalWram.push start) h

/-- The invariant asks of a state in the frame of a good one only its WRAM, Bh, Bl and CYC. -/
theorem ExecFrame.inv (h : ExecFrame s t) (good : s.Inv) (wram : CanonicalWram t) (bh : t.p.bh = s.p.bh)
    (bl : t.p.bl = s.p.bl) (cyc : s.cyc ≤ t.cyc) : t.Inv where
  wram := wram
  prg := by rw [h.prg, h.params]; exact good.prg
  bh := bh.trans good.bh
  bl := bl.trans good.bl
  breakpoints := by rw [h.breakpoints]; exact good.breakpoints
  watchpoints := by rw [h.watchpoints]; exact good.watchpoints
  cyc := good.cyc.trans cyc
  draws := by
    obtain ⟨es, events, draws⟩ := h.history
    rw [draws, events, drawsIn_append, good.draws]

theorem exec_inv {i : Instr} (good : s.Inv) (h : exec i s = .next t) : t.Inv :=
  (exec_frame h).inv good (exec_canonicalWram good.wram h) (exec_b h).1 (exec_b h).2 (by rw [exec_cyc h]; omega)

/-- A fetch changes no more than bus reads do. -/
theorem fetch_inv {f : Fetched} (good : s.Inv) (fetched : fetch s = .ok f) : f.after.Inv := by
  obtain ⟨frame, wram, -, -⟩ := fetch_ok fetched
  refine ((ExecFrame.refl s).bus frame).inv good ?_ ?_ ?_ frame.sameFlow.cyc.ge
  · rw [CanonicalWram, wram]; exact good.wram
  · rw [frame.p_eq]
  · rw [frame.p_eq]

theorem AddrSet.wf_iff {set : AddrSet} : AddrSet.wf set = true ↔ set.Pairwise (fun a b => a.toNat < b.toNat) := by
  rw [AddrSet.wf, decide_eq_true_iff]

theorem deliver_inv (line : TraceLine) (good : s.Inv) : (deliver line s).Inv :=
  ⟨good.wram, good.prg, good.bh, good.bl, good.breakpoints, good.watchpoints, good.cyc, good.draws⟩

theorem fireBreakpoint_inv (good : s.Inv) : (fireBreakpoint s).Inv where
  wram := good.wram
  prg := good.prg
  bh := good.bh
  bl := good.bl
  breakpoints := AddrSet.wf_iff.mpr ((AddrSet.wf_iff.mp good.breakpoints).filter _)
  watchpoints := good.watchpoints
  cyc := good.cyc
  draws := good.draws

theorem clearHit_inv (good : s.Inv) : { s with watchHit := false }.Inv :=
  ⟨good.wram, good.prg, good.bh, good.bl, good.breakpoints, good.watchpoints, good.cyc, good.draws⟩

end

/-- Settles O58: a halted core does not move; a running one fires a breakpoint, or fetches, executes and delivers, and each
of these keeps the invariant, PRG and the parameters. -/
theorem stepKeepsTheInvariant : Obligations.StepKeepsTheInvariant := by
  intro s t good h
  cases status : s.status with
  | halted reason =>
    rw [step_halted status] at h
    cases h
    exact ⟨good, rfl, rfl⟩
  | faulted f =>
    rw [step_faulted status] at h
    cases h
  | running =>
    by_cases atPc : s.pc ∈ s.breakpoints
    · rw [step_breakpoint status atPc] at h
      cases h
      exact ⟨fireBreakpoint_inv (clearHit_inv good), rfl, rfl⟩
    · obtain ⟨f, u, fetched, executed, rfl⟩ := step_next status atPc h
      have frame := exec_frame executed
      have fetchFrame := (fetch_ok fetched).1
      refine ⟨deliver_inv _ (exec_inv (fetch_inv (clearHit_inv good) fetched) executed), ?prg, ?params⟩
      case prg => exact frame.prg.trans (by rw [fetchFrame.same])
      case params => exact frame.params.trans fetchFrame.params_eq

/-- Settles O59: each clause is the boot value of its field, or a hypothesis on the memory it was given. -/
theorem bootSatisfiesTheInvariant : Obligations.BootSatisfiesTheInvariant := by
  refine ⟨⟨rfl, rfl, rfl, rfl, rfl, rfl, le_rfl, rfl⟩, fun cart ps w b prg wram => ?_⟩
  constructor <;> simp [prg, wram, AddrSet.wf, Flags.decode, drawsIn]

end Sys2Proof.Machine
end

section
/-! PROOFS. Noninterference (spec/10_state.md sections 3 and 7, spec/70_reset_and_hazards.md section 5, spec/20_memory.md
section 5): a change of the state that neither the bus nor the effects look at commutes with every instruction. CYC, the
flags D and I, and the watchpoints are three such changes. -/

namespace Sys2Proof.Machine

open Sys2Proof.Claims

/-! ### Changes that an instruction does not see -/

/-- The change leaves everything that addresses, bus accesses and shifts are computed from, and commutes with what they and
the end of an instruction do to the state. -/
structure Unseen (g : State → State) : Prop where
  pc         : ∀ s, (g s).pc = s.pc
  x          : ∀ s, (g s).x = s.x
  y          : ∀ s, (g s).y = s.y
  carry      : ∀ s, (g s).p.c = s.p.c
  wram       : ∀ s, (g s).wram = s.wram
  prg        : ∀ s, (g s).prg = s.prg
  params     : ∀ s, (g s).params = s.params
  busHistory : ∀ s, (g s).busHistory = s.busHistory
  ppuChoice  : ∀ s, (g s).ppuChoice = s.ppuChoice
  touch      : ∀ a s, touch a (g s) = g (touch a s)
  log        : ∀ e s, logPpu e (g s) = g (logPpu e s)
  draw       : ∀ n s, { g s with ppuChoice := n } = g { s with ppuChoice := n }
  store      : ∀ w s, { g s with wram := w } = g { s with wram := w }
  shift      : ∀ op s, shiftA op (g s) = g (shiftA op s)
  spend      : ∀ n s, spend n (g s) = g (spend n s)
  jump       : ∀ a s, jumpTo a (g s) = g (jumpTo a s)

/-- The effect commutes with the change. -/
def Effect.Commutes (g : State → State) : Effect → Prop
  | .read eff => ∀ v s, eff v (g s) = g (eff v s)
  | .store value => ∀ s, value (g s) = value s
  | .rmw _ eff => ∀ r c s, eff r c (g s) = g (eff r c s)
  | .implied eff => ∀ s, eff (g s) = g (eff s)
  | .branch cond => ∀ s, cond (g s).p = cond s.p
  | .jump => True
  | .call => ∀ w s, pushWord w (g s) = g (pushWord w s)
  | .ret => ∀ s, pullWord (g s) = Prod.map id g (pullWord s)
  | .trapReturn => ∀ s, returnFromBreak (g s) = g (returnFromBreak s)
  | .trap => ∀ s, takeBreak (g s) = (takeBreak s).map g

section
variable {g : State → State} {s : State} {m : MemMode} {base : Nat} {eligible : Bool}

/-! The parts of an instruction. -/

theorem Unseen.read (unseen : Unseen g) (a : Addr) (s : State) : busRead a (g s) = (busRead a s).map (Prod.map id g) := by
  rcases region_cases a with h | ⟨h, h'⟩ | ⟨h, h'⟩ | ⟨h, h'⟩ | h
  · rw [busRead_wram h, busRead_wram h, unseen.wram, unseen.touch]; rfl
  · rw [busRead_ppu h h', busRead_ppu h h', unseen.busHistory, unseen.ppuChoice, unseen.touch, unseen.log, unseen.draw]; rfl
  · rw [busRead_apu h h', busRead_apu h h', unseen.touch]; rfl
  · rw [busRead_fatal h h', busRead_fatal h h', unseen.pc]; rfl
  · rw [busRead_prg h, busRead_prg h, unseen.prg, prgIndex, unseen.params, unseen.touch]; rfl

theorem Unseen.write (unseen : Unseen g) (a : Addr) (v : Byte) (s : State) :
    busWrite a v (g s) = (busWrite a v s).map g := by
  rcases region_cases a with h | ⟨h, h'⟩ | ⟨h, h'⟩ | ⟨h, h'⟩ | h
  · rw [busWrite_wram h, busWrite_wram h, unseen.wram, unseen.touch, unseen.store]; rfl
  · rw [busWrite_ppu h h', busWrite_ppu h h', unseen.touch, unseen.log]; rfl
  · rw [busWrite_apu h h', busWrite_apu h h', unseen.touch]; rfl
  · rw [busWrite_fatal h h', busWrite_fatal h h', unseen.pc]; rfl
  · cases policy : s.params.prgWritePolicy with
    | ignore =>
      rw [busWrite_prg_ignore h policy, busWrite_prg_ignore h (by rw [unseen.params, policy]), unseen.touch]; rfl
    | fault =>
      rw [busWrite_prg_fault h policy, busWrite_prg_fault h (by rw [unseen.params, policy]), unseen.pc]; rfl

theorem Unseen.effAddress (unseen : Unseen g) (m : MemMode) (s : State) : effAddress m (g s) = effAddress m s := by
  cases m <;> simp only [Machine.effAddress, zpWord, unseen.x, unseen.y, unseen.wram]

theorem Unseen.baseAddress (unseen : Unseen g) (m : MemMode) (s : State) : baseAddress m (g s) = baseAddress m s := by
  cases m <;> simp only [Machine.baseAddress, zpWord, unseen.x, unseen.y, unseen.wram]

theorem Unseen.pagePenalty (unseen : Unseen g) (m : MemMode) (s : State) :
    pagePenalty eligible m (g s) = pagePenalty eligible m s := by
  simp only [Machine.pagePenalty, unseen.effAddress, unseen.baseAddress]

theorem Unseen.afterPointer (unseen : Unseen g) (m : MemMode) (s : State) :
    afterPointer m (g s) = g (afterPointer m s) := by
  cases m <;> simp only [Machine.afterPointer, zpTouch, unseen.x, unseen.touch]

theorem Unseen.readOperand (unseen : Unseen g) (m : MemMode) (s : State) :
    readOperand m (g s) = (readOperand m s).map (Prod.map id g) := by
  rw [Machine.readOperand, unseen.effAddress, unseen.afterPointer, unseen.read, Machine.readOperand]

theorem Unseen.readPair (unseen : Unseen g) (a b : Addr) (s : State) :
    readPair a b (g s) = (readPair a b s).map (Prod.map id g) := by
  unfold Machine.readPair
  rw [unseen.read]
  cases busRead a s with
  | error f => rfl
  | ok r =>
    dsimp only [Except.map, Prod.map, id]
    rw [unseen.read]
    cases busRead b r.2 <;> rfl

theorem Unseen.indirectTarget (unseen : Unseen g) (w : Addr) (s : State) :
    indirectTarget w (g s) = (indirectTarget w s).map (Prod.map id g) := by
  rw [Machine.indirectTarget, unseen.params, unseen.readPair, Machine.indirectTarget]

theorem Unseen.finish (unseen : Unseen g) (length cost : Nat) (s : State) :
    finish length cost (g s) = g (finish length cost s) := by
  simp only [Machine.finish, unseen.pc, unseen.jump, unseen.spend]

/-! The shapes. -/

theorem Unseen.readClass {eff : Byte → State → State} (unseen : Unseen g) (commutes : (Effect.read eff).Commutes g) :
    readClass eff m base eligible (g s) = onNext g (readClass eff m base eligible s) := by
  unfold Machine.readClass
  rw [unseen.readOperand, unseen.pagePenalty]
  cases Machine.readOperand m s with
  | error f => rfl
  | ok r =>
    dsimp only [Except.map, Prod.map, id]
    rw [commutes, unseen.finish]; rfl

theorem Unseen.storeClass {value : State → Byte} (unseen : Unseen g) (commutes : (Effect.store value).Commutes g) :
    storeClass value m base (g s) = onNext g (storeClass value m base s) := by
  unfold Machine.storeClass
  rw [unseen.effAddress, unseen.afterPointer, commutes, unseen.write]
  cases busWrite (Machine.effAddress m s) (value s) (Machine.afterPointer m s) with
  | error f => rfl
  | ok t =>
    dsimp only [Except.map]
    rw [unseen.finish]; rfl

theorem Unseen.rmwClass {op : Byte → Bool → Byte × Bool} {eff : Byte → Bool → State → State} (unseen : Unseen g)
    (commutes : (Effect.rmw op eff).Commutes g) :
    rmwClass op eff m base (g s) = onNext g (rmwClass op eff m base s) := by
  unfold Machine.rmwClass
  rw [unseen.readOperand, unseen.effAddress, unseen.carry]
  cases Machine.readOperand m s with
  | error f => rfl
  | ok r =>
    dsimp only [Except.map, Prod.map, id]
    rw [unseen.write]
    cases busWrite (Machine.effAddress m s) (op r.1 s.p.c).1 r.2 with
    | error f => rfl
    | ok t =>
      dsimp only [Except.map]
      rw [commutes, unseen.finish]; rfl

theorem Unseen.branchClass {cond : Flags → Bool} {off : Byte} (unseen : Unseen g)
    (commutes : (Effect.branch cond).Commutes g) :
    branchClass cond off base (g s) = onNext g (branchClass cond off base s) := by
  unfold Machine.branchClass branchTarget
  rw [commutes, unseen.pc]
  split
  · rw [unseen.jump, unseen.spend]; rfl
  · rw [unseen.finish]; rfl

/-- Every shape of `runEffect`, in the order of its arms. -/
theorem Unseen.runEffect {e : Effect} {o : Operand} (unseen : Unseen g) (commutes : e.Commutes g) :
    runEffect e o base eligible (g s) = (runEffect e o base eligible s).map (onNext g) := by
  unfold Machine.runEffect
  split
  · rw [unseen.readClass commutes]; rfl
  · rw [commutes, unseen.finish]; rfl
  · rw [impliedClass, id, unseen.finish]; rfl
  · rw [unseen.storeClass commutes]; rfl
  · rw [unseen.rmwClass commutes]; rfl
  · rw [impliedClass, unseen.shift, unseen.finish]; rfl
  · rw [impliedClass, commutes, unseen.finish]; rfl
  · rw [unseen.branchClass commutes]; rfl
  · rw [unseen.jump, unseen.spend]; rfl
  · next w =>
    rw [unseen.indirectTarget]
    cases Machine.indirectTarget w s with
    | error f => rfl
    | ok r =>
      dsimp only [Except.map, Prod.map, id]
      rw [unseen.jump, unseen.spend]; rfl
  · rw [unseen.pc, commutes, unseen.jump, unseen.spend]; rfl
  · rw [commutes]; dsimp only [Prod.map, id]; rw [unseen.jump, unseen.spend]; rfl
  · rw [commutes, unseen.spend]; rfl
  · rw [commutes]
    cases takeBreak s with
    | error f => rfl
    | ok t => dsimp only [Except.map, toResult]; rw [unseen.spend]; rfl
  · rfl

theorem Unseen.exec {i : Instr} (unseen : Unseen g) (commutes : (effectOf i.mnemonic).Commutes g) (s : State) :
    exec i (g s) = onNext g (exec i s) := by
  have table := unseen.runEffect (o := i.operand) (base := i.row.baseCycles) (eligible := i.row.pageCross) (s := s) commutes
  rw [exec_of_effect, exec_of_effect] at table
  exact Option.some.inj table

end

/-! ### CYC -/

/-- CYC grows beside an instruction without being seen (R300). -/
theorem unseen_spend (k : Nat) : Unseen (spend k) := by
  constructor
  case spend => intro n s; rw [spend, spend, spend, spend, Nat.add_right_comm]
  all_goals intros; rfl

theorem push_spend (k : Nat) (v : Byte) (s : State) : push v (spend k s) = spend k (push v s) := rfl

theorem takeBreak_spend (k : Nat) (s : State) : takeBreak (spend k s) = (takeBreak s).map (spend k) := by
  simp only [takeBreak_eq, Except.map, prgIndex, spend_prg, spend_params, spend_pc, spend_p, pushWord_eq_push, push_spend,
    (unseen_spend k).touch]
  rfl

theorem effectOf_commutes_spend (k : Nat) (m : Mnemonic) : (effectOf m).Commutes (spend k) := by
  cases m
  case jmp => trivial
  case brk => exact takeBreak_spend k
  all_goals intro _; intros; rfl

/-- Settles O43: both runs are the run from a zero counter, with different cycles spent beside it. -/
theorem cyclesGateNothing : Obligations.CyclesGateNothing := by
  intro i s n
  have beside (k : Nat) : exec i { s with cyc := k } = onNext (spend k) (exec i { s with cyc := 0 }) := by
    rw [← (unseen_spend k).exec (effectOf_commutes_spend k _), spend, Nat.zero_add]
  rw [show exec i s = _ from beside s.cyc, beside n]
  cases exec i { s with cyc := 0 } with
  | next t =>
    refine congrArg Host.Outcome.next ?_
    simp only [spend, Nat.add_sub_cancel, Nat.add_comm n]
  | fault f => rfl
  | refused r => rfl

/-! ### D and I -/

/-- Other values in D and I. -/
def setDI (d j : Bool) (s : State) : State := { s with p := { s.p with d := d, i := j } }

theorem unseen_setDI (d j : Bool) : Unseen (setDI d j) := by constructor <;> intros <;> rfl

/-- Apart from the instructions that write D or I, or push the status byte, no effect sees them (R34, R35). -/
theorem effectOf_commutes_setDI {i : Instr} (d j : Bool) (notD : ¬ writesD i) (notI : ¬ writesI i)
    (notPhp : i.mnemonic ≠ .php) : (effectOf i.mnemonic).Commutes (setDI d j) := by
  cases hm : i.mnemonic
  case php => exact absurd hm notPhp
  case cld | sed | plp | rti => exact absurd (by simp [writesD, hm]) notD
  case cli | sei | brk => exact absurd (by simp [writesI, hm]) notI
  case jmp => trivial
  all_goals intro _; intros; rfl

/-- Settles O44: setting D and I commutes with the shapes, the bus and the effects that are left. -/
theorem decimalAndInterruptFlagsGateNothing : Obligations.DecimalAndInterruptFlagsGateNothing :=
  fun _ s d j notD notI notPhp => (unseen_setDI d j).exec (effectOf_commutes_setDI d j notD notI notPhp) s

/-! ### Watchpoints -/

/-- No watchpoints, and none touched. -/
def unwatch (s : State) : State := { s with watchHit := false, watchpoints := [] }

theorem unseen_unwatch : Unseen unwatch := by constructor <;> intros <;> rfl

theorem effectOf_commutes_unwatch (m : Mnemonic) : (effectOf m).Commutes unwatch := by
  cases m
  case jmp => trivial
  case brk => intro s; rw [takeBreak_eq, takeBreak_eq]; rfl
  all_goals intro _; intros; rfl

/-- Settles O45: up to the watchpoints, both runs are the run without any. -/
theorem watchpointsDoNotStopAccesses : Obligations.WatchpointsDoNotStopAccesses := by
  intro i s ws b
  have without := unseen_unwatch.exec (effectOf_commutes_unwatch i.mnemonic)
  exact (without { s with watchpoints := ws, watchHit := b }).symm.trans (without s)

end Sys2Proof.Machine
end

section
/-! PROOFS. Faults (spec/60_exceptions.md R250 to R253): what an instruction, a fetch and a step can answer. -/

namespace Sys2Proof.Machine

open Sys2Proof.Claims

/-! ### What an instruction can answer -/

/-- The outcome of a bus access that faults (R60, R61), with the pc of the state. -/
def BusFault (s : State) (r : Result) : Prop :=
  (∃ a, Unmapped a ∧ r = .fault (.unmappedAccess a s.pc)) ∨ (∃ a, RomFault s a ∧ r = .fault (.romWrite a s.pc))

/-- The outcome completes, or is a bus fault. -/
def Answered (s : State) (r : Result) : Prop := (∃ t, r = .next t) ∨ BusFault s r

section
variable {s t : State} {a : Addr} {v : Byte} {f : Fault} {m : MemMode} {base : Nat} {eligible : Bool}

theorem BusFault.of_read (frame : BusFrame s t) (h : busRead a t = .error f) : BusFault s (.fault f) := by
  obtain ⟨lower, upper, rfl⟩ := busRead_error h
  exact .inl ⟨a, ⟨lower, upper⟩, by rw [frame.sameFlow.pc]⟩

theorem BusFault.of_write (frame : BusFrame s t) (h : busWrite a v t = .error f) : BusFault s (.fault f) := by
  rcases busWrite_error h with ⟨lower, upper, rfl⟩ | ⟨lower, policy, rfl⟩
  · exact .inl ⟨a, ⟨lower, upper⟩, by rw [frame.sameFlow.pc]⟩
  · exact .inr ⟨a, ⟨lower, by rw [← frame.params_eq]; exact policy⟩, by rw [frame.sameFlow.pc]⟩

theorem BusFault.frame {r : Result} (frame : BusFrame s t) (h : BusFault t r) : BusFault s r := by
  unfold BusFault RomFault at h
  rw [frame.sameFlow.pc, frame.params_eq] at h
  exact h

theorem readClass_answers (eff : Byte → State → State) : Answered s (readClass eff m base eligible s) := by
  cases read : readOperand m s with
  | error f => rw [readClass_of_error read]; exact .inr (.of_read (afterPointer_frame m s) read)
  | ok r => rw [readClass_of_ok read]; exact .inl ⟨_, rfl⟩

theorem storeClass_answers (value : State → Byte) : Answered s (storeClass value m base s) := by
  cases written : busWrite (effAddress m s) (value s) (afterPointer m s) with
  | error f => rw [storeClass_of_error written]; exact .inr (.of_write (afterPointer_frame m s) written)
  | ok t => rw [storeClass_of_ok written]; exact .inl ⟨_, rfl⟩

theorem rmwClass_answers (op : Byte → Bool → Byte × Bool) (eff : Byte → Bool → State → State) :
    Answered s (rmwClass op eff m base s) := by
  cases read : readOperand m s with
  | error f => rw [rmwClass_of_read_error read]; exact .inr (.of_read (afterPointer_frame m s) read)
  | ok r =>
    cases written : busWrite (effAddress m s) (op r.1 s.p.c).1 r.2 with
    | error f => rw [rmwClass_of_write_error read written]; exact .inr (.of_write (readOperand_frame read).1 written)
    | ok t => rw [rmwClass_of_ok read written]; exact .inl ⟨_, rfl⟩

theorem readPair_error {a b : Addr} (h : readPair a b s = .error f) : BusFault s (.fault f) := by
  cases low : busRead a s with
  | error e =>
    rw [readPair_error_low low] at h
    cases h
    exact .of_read (.refl s) low
  | ok r =>
    cases high : busRead b r.2 with
    | error e =>
      rw [readPair_error_high low high] at h
      cases h
      exact .of_read (BusFrame.read low).1 high
    | ok q =>
      rw [readPair_ok low high] at h
      cases h

/-- Only the shapes with a bus access at an operand's address can fault: the memory modes and JMP's pointer. -/
theorem runEffect_answers {e : Effect} {o : Operand} {r : Result} (h : runEffect e o base eligible s = some r) :
    (∃ t, r = .next t) ∨ ((∃ m, o = .memory m) ∨ ∃ w, o = .indirect w) ∧ BusFault s r := by
  have memory (m : MemMode) {r : Result} (answers : Answered s r) :
      (∃ t, r = .next t) ∨ ((∃ n, Operand.memory m = .memory n) ∨ ∃ w, Operand.memory m = .indirect w) ∧ BusFault s r :=
    answers.imp_right fun faults => ⟨.inl ⟨m, rfl⟩, faults⟩
  unfold runEffect at h
  split at h <;> simp only [Option.some.injEq, reduceCtorEq] at h <;> subst h
  · exact memory _ (readClass_answers _)
  · exact .inl ⟨_, rfl⟩
  · exact .inl ⟨_, rfl⟩
  · exact memory _ (storeClass_answers _)
  · exact memory _ (rmwClass_answers _ _)
  · exact .inl ⟨_, rfl⟩
  · exact .inl ⟨_, rfl⟩
  · unfold branchClass
    split <;> exact .inl ⟨_, rfl⟩
  · exact .inl ⟨_, rfl⟩
  · next w =>
    split
    · next resolved => exact .inr ⟨.inr ⟨w, rfl⟩, readPair_error resolved⟩
    · exact .inl ⟨_, rfl⟩
  · exact .inl ⟨_, rfl⟩
  · exact .inl ⟨_, rfl⟩
  · exact .inl ⟨_, rfl⟩
  · rw [takeBreak_eq]
    exact .inl ⟨_, rfl⟩

theorem exec_answers (i : Instr) (s : State) :
    (∃ t, exec i s = .next t) ∨ ((∃ m, i.operand = .memory m) ∨ ∃ w, i.operand = .indirect w) ∧ BusFault s (exec i s) :=
  runEffect_answers (exec_of_effect i s)

/-! ### What a fetch and a step can answer -/

section
variable {op : Byte} {form : Form}

theorem fetch_of_read_error (faulted : busRead s.pc s = .error f) : fetch s = .error f := by
  simp only [fetch, faulted]

theorem fetch_of_form (read : busRead s.pc s = .ok (op, t)) (entry : implementedForm s.params op = some form) :
    fetch s = fetchForm op form s.pc t := by
  simp only [fetch, read, entry]

/-- Only an operand byte that a read refuses ends the fetch of a form. -/
theorem fetchForm_error (frame : BusFrame s t) (h : fetchForm op form a t = .error f) : BusFault s (.fault f) := by
  cases form with
  | none i => cases h
  | byte mk =>
    simp only [fetchForm] at h
    split at h
    · next first => cases h; exact .of_read frame first
    · cases h
  | word mk =>
    simp only [fetchForm] at h
    split at h
    · next first => cases h; exact .of_read frame first
    · next first =>
      split at h
      · next second => cases h; exact .of_read (frame.trans (BusFrame.read first).1) second
      · cases h

theorem fetchForm_completes (first : Mapped (a + 1)) (second : Mapped (a + 2)) : ∃ f, fetchForm op form a t = .ok f := by
  cases form with
  | none i => exact ⟨_, rfl⟩
  | byte mk =>
    obtain ⟨b, u, read⟩ := busRead_completes (s := t) first
    exact ⟨_, by simp only [fetchForm, read]; rfl⟩
  | word mk =>
    obtain ⟨b, u, read⟩ := busRead_completes (s := t) first
    obtain ⟨c, v, read'⟩ := busRead_completes (s := u) second
    exact ⟨_, by simp only [fetchForm, read, read']; rfl⟩

/-- A fetch ends at an unmapped byte or at an opcode without an entry (R84, R87). -/
theorem fetch_error (h : fetch s = .error f) : (∃ op, f = .unimplementedOpcode op s.pc) ∨ BusFault s (.fault f) := by
  cases read : busRead s.pc s with
  | error e =>
    rw [fetch_of_read_error read] at h
    cases h
    exact .inr (.of_read (.refl s) read)
  | ok r =>
    cases entry : implementedForm s.params r.1 with
    | none =>
      rw [fetch_unimplemented read entry] at h
      cases h
      exact .inl ⟨r.1, rfl⟩
    | some form =>
      rw [fetch_of_form read entry] at h
      exact .inr (fetchForm_error (BusFrame.read read).1 h)

/-- At a mapped PC every operand byte is mapped too, unless PC is in the stub, whose bytes read as BRK (R58). -/
theorem fetchForm_completes_of_mapped (mapped : Mapped s.pc) (read : busRead s.pc s = .ok (op, t))
    (entry : implementedForm s.params op = some form) : ∃ f, fetchForm op form s.pc t = .ok f := by
  by_cases stub : 0x4000 ≤ s.pc.toNat ∧ s.pc.toNat < 0x4018
  · rw [busRead_apu stub.1 stub.2] at read
    cases read
    cases (implementedForm_some entry).2
    exact ⟨_, rfl⟩
  · have first : Mapped (s.pc + 1) := by unfold Mapped at *; bv_omega
    have second : Mapped (s.pc + 2) := by unfold Mapped at *; bv_omega
    exact fetchForm_completes first second

end

theorem step_answers (running : s.status = .running) : (∃ t, step s = .next t) ∨
    (∃ op, step s = .fault (.unimplementedOpcode op s.pc)) ∨ BusFault s (step s) := by
  by_cases atPc : s.pc ∈ s.breakpoints
  · exact .inl ⟨_, step_breakpoint running atPc⟩
  · have ready : Ready s := ⟨running, atPc⟩
    cases fetched : fetch { s with watchHit := false } with
    | error f =>
      rw [step_of_fetch_error ready fetched]
      exact .inr ((fetch_error fetched).imp_left fun ⟨op, unimplemented⟩ => ⟨op, congrArg _ unimplemented⟩)
    | ok f =>
      have frame := (fetch_ok fetched).1
      rw [step_of_fetch_ok ready fetched, runFetched]
      rcases exec_answers f.instr f.after with ⟨t, executed⟩ | ⟨-, faults⟩
      · rw [executed]; exact .inl ⟨_, rfl⟩
      · have faults : BusFault { s with watchHit := false } (exec f.instr f.after) := faults.frame frame
        obtain ⟨a, unmapped, executed⟩ | ⟨a, rom, executed⟩ := faults
        · rw [executed]; exact .inr (.inr (.inl ⟨a, unmapped, rfl⟩))
        · rw [executed]; exact .inr (.inr (.inr ⟨a, rom, rfl⟩))

end

/-- Settles O46: every shape completes or hands on the fault of a bus access; a step adds what its fetch can answer. -/
theorem onlyBusAccessesFaultAndNothingIsRefused : Obligations.OnlyBusAccessesFaultAndNothingIsRefused :=
  ⟨exec_answers, fun _ => step_answers⟩

/-- Settles O50: the read at PC decides an unmapped PC; at a mapped one the operand bytes of an implemented opcode
complete. -/
theorem fetchFaultsOnlyAtAnUnmappedPc : Obligations.FetchFaultsOnlyAtAnUnmappedPc := by
  refine fun s ready => ⟨fun ⟨lower, upper⟩ => ?unmapped, fun mapped => ?mapped⟩
  case unmapped =>
    exact step_of_fetch_error ready (fetch_of_read_error (s := { s with watchHit := false }) (busRead_fatal lower upper))
  case mapped =>
    obtain ⟨op, t, read⟩ := busRead_completes (s := { s with watchHit := false }) mapped
    cases entry : implementedForm s.params op with
    | none =>
      exact .inr ⟨op, t, read, step_of_fetch_error ready (fetch_unimplemented (s := { s with watchHit := false }) read entry)⟩
    | some form =>
      obtain ⟨f, complete⟩ := fetchForm_completes_of_mapped (s := { s with watchHit := false }) mapped read entry
      exact .inl ⟨f, (fetch_of_form (s := { s with watchHit := false }) read entry).trans complete⟩

/-! ### What a completed step leaves -/

end Sys2Proof.Machine
end

section
/-! PROOFS. The debug observation port (spec/60_exceptions.md section 5): breakpoints, watchpoints, trace lines, the golden
loop, the sets and the peek; and the run status around the step. -/

namespace Sys2Proof.Machine

open Sys2Proof.Claims

/-! ### Breakpoints and the run status -/

/-- Settles O51: the fired breakpoint is filtered out of the set, so the resumed state is ready at the same PC. -/
theorem breakpointFiresOnce : Obligations.BreakpointFiresOnce := by
  intro s running atPc
  have consumed : s.pc ∉ s.breakpoints.filter (fun b => b != s.pc) := by simp
  refine ⟨_, step_breakpoint running atPc, ?whole, ⟨rfl, consumed⟩, rfl⟩
  case whole => simp only [fireBreakpoint, AddrSet.remove, bne, beq_eq_decide, decide_not]

theorem resume_halted {s : State} {reason : HaltReason} (halted : s.status = .halted reason) :
    resume s = { s with status := .running } := by
  simp only [resume, halted]

theorem resume_faulted {s : State} {f : Fault} (faulted : s.status = .faulted f) : resume s = s := by
  simp only [resume, faulted]

theorem tick_of_fault {s : State} {f : Fault} (h : step s = .fault f) : tick s = { s with status := .faulted f } := by
  simp only [tick, h, faultedState]

theorem tick_of_next {s t : State} (h : step s = .next t) : tick s = t := by
  simp only [tick, h]

/-- A faulted state is a fixed point of the step's state change (R250). -/
theorem tick_faulted {s : State} {f : Fault} (faulted : s.status = .faulted f) : tick s = s := by
  rw [tick_of_fault (step_faulted faulted), ← faulted]

/-- Settles O55: the step and the resume by status; a faulted state is a fixed point, whatever the number of steps. -/
theorem haltedWaitsAndFaultedIsTerminal : Obligations.HaltedWaitsAndFaultedIsTerminal :=
  ⟨fun _ _ halted => ⟨step_halted halted, resume_halted halted⟩,
    fun _ _ faulted => ⟨step_faulted faulted, resume_faulted faulted, Function.iterate_fixed (tick_faulted faulted)⟩,
    fun _ _ => tick_of_fault⟩

/-! ### Lines and watchpoints -/

/-- Everything a completed ready step has done: fetched, executed, and delivered the line of the fetched instruction in a
state that still has the trace, the watchpoints and the status from before. -/
theorem step_delivers {s t : State} (ready : Ready s) (h : step s = .next t) :
    ∃ f v, fetch { s with watchHit := false } = .ok f ∧ exec f.instr f.after = .next v ∧
      t = deliver (traceLine { s with watchHit := false } f) v ∧ f.bytes = encode f.instr ∧
      v.trace = s.trace ∧ v.watchpoints = s.watchpoints ∧ v.status = .running := by
  obtain ⟨f, v, fetched, executed, rfl⟩ := step_next ready.running ready.noBreak h
  obtain ⟨fetchFrame, -, bytes, -⟩ := fetch_ok fetched
  have frame := exec_frame executed
  have before := (ExecFrame.refl _).bus fetchFrame
  exact ⟨f, v, fetched, executed, rfl, bytes, frame.trace.trans before.trace,
    frame.watchpoints.trans before.watchpoints, (frame.status.trans before.status).trans ready.running⟩

/-- Settles O52: the delivery is the only change after the execution, and it halts by watchHit. -/
theorem watchpointHaltsAfterTheInstruction : Obligations.WatchpointHaltsAfterTheInstruction := by
  intro s t ready h
  obtain ⟨f, v, fetched, executed, rfl, -, trace, watchpoints, running⟩ := step_delivers ready h
  refine ⟨f, v, traceLine { s with watchHit := false } f, fetched, executed, rfl, rfl, watchpoints, ?_⟩
  rw [deliver, trace, running]

/-- Settles O53: the delivered line is `traceLine` of the state before, whose status byte is R27's layout. -/
theorem traceLineShowsTheStateBefore : Obligations.TraceLineShowsTheStateBefore := by
  intro s t ready h
  obtain ⟨f, v, fetched, -, rfl, bytes, trace, -, -⟩ := step_delivers ready h
  exact ⟨f, traceLine { s with watchHit := false } f, fetched, congrArg (· ++ _) trace, rfl, rfl, rfl, rfl, rfl,
    s.p.encode_eq_statusByte, rfl, rfl, bytes, rfl, rfl⟩

/-! ### The golden loop -/

theorem runGolden_succ {s : State} (running : s.status = .running) (fuel : Nat) (golden : List TraceLine) :
    runGolden (fuel + 1) golden s =
      runGolden fuel (compareLines golden ((tick s).trace.drop s.trace.length) (tick s)).2
        (compareLines golden ((tick s).trace.drop s.trace.length) (tick s)).1 := by
  rw [runGolden, if_pos running]

/-- The loop ends at a core that does not run. -/
theorem runGolden_stopped {s : State} (stopped : s.status ≠ .running) (fuel : Nat) (golden : List TraceLine) :
    runGolden fuel golden s = s := by
  cases fuel with
  | zero => rfl
  | succ fuel => rw [runGolden, if_neg stopped]

/-- Settles O57: the lines a step adds are what the trace has beyond its old length, and a mismatch leaves a core that the
loop does not run on. -/
theorem goldenLoopHaltsAtTheFirstMismatch : Obligations.GoldenLoopHaltsAtTheFirstMismatch := by
  intro s t expected actual log fuel running h trace
  have delivered : (tick s).trace.drop s.trace.length = [actual] := by
    rw [tick_of_next h, trace, List.drop_left]
  rw [runGolden_succ running, delivered, tick_of_next h]
  refine ⟨fun same => ?same, fun differ => ?differ⟩
  case same => rw [compareLines_equal _ _ _ same]
  case differ =>
    rw [compareLines_differ _ _ _ differ]
    exact runGolden_stopped (by simp) _ _

/-! ### Sets and peeks -/

section
variable {a b : Addr} {set : AddrSet}

theorem AddrSet.mem_insert : b ∈ AddrSet.insert a set ↔ b = a ∨ b ∈ set := by
  induction set with
  | nil => simp [AddrSet.insert]
  | cons c set ih =>
    rw [AddrSet.insert]
    split_ifs with before same
    · simp
    · simp [same]
    · rw [List.mem_cons, ih, List.mem_cons]; tauto

/-- An insertion keeps the set strictly rising (log 14). -/
theorem AddrSet.wf_insert (h : AddrSet.wf set = true) (a : Addr) : AddrSet.wf (AddrSet.insert a set) = true := by
  rw [AddrSet.wf_iff] at h ⊢
  induction set with
  | nil => simp [AddrSet.insert]
  | cons c set ih =>
    obtain ⟨above, rest⟩ := List.pairwise_cons.mp h
    rw [AddrSet.insert]
    split_ifs with before same
    · refine List.pairwise_cons.mpr ⟨fun d hd => ?_, h⟩
      rcases List.mem_cons.mp hd with rfl | hd
      · exact before
      · exact before.trans (above d hd)
    · exact h
    · refine List.pairwise_cons.mpr ⟨fun d hd => ?_, ih rest⟩
      rcases AddrSet.mem_insert.mp hd with rfl | hd
      · have apart : d.toNat ≠ c.toNat := fun equal => same (BitVec.eq_of_toNat_eq equal)
        omega
      · exact above d hd

/-- Inserting a second time finds the address and stops there (R273). -/
theorem AddrSet.insert_insert (a : Addr) (set : AddrSet) :
    AddrSet.insert a (AddrSet.insert a set) = AddrSet.insert a set := by
  induction set with
  | nil => simp [AddrSet.insert]
  | cons c set ih =>
    by_cases before : a.toNat < c.toNat
    · simp [AddrSet.insert, before]
    · by_cases same : a = c
      · simp [AddrSet.insert, same]
      · simp [AddrSet.insert, before, same, ih]

end

section
variable {a : Addr} {s : State}

/-- A peek is unspecified in the PPU window and in the fatal region (R272, log 9). -/
theorem peek_eq_none_iff : peek a s = none ↔ (0x2000 ≤ a.toNat ∧ a.toNat < 0x4000) ∨ Unmapped a := by
  rcases region_cases a with h | ⟨h, h'⟩ | ⟨h, h'⟩ | ⟨h, h'⟩ | h
  · rw [peek_wram h]; exact iff_of_false nofun (by omega)
  · rw [peek_ppu h h']; exact iff_of_true rfl (by omega)
  · rw [peek_apu h h']; exact iff_of_false nofun (by omega)
  · rw [peek_fatal h h']; exact iff_of_true rfl (by omega)
  · rw [peek_prg h]; exact iff_of_false nofun (by omega)

/-- A peeked byte is the one a bus read would give. -/
theorem busRead_of_peek {v : Byte} (h : peek a s = some v) : ∃ t, busRead a s = .ok (v, t) := by
  rcases region_cases a with ha | ⟨ha, ha'⟩ | ⟨ha, ha'⟩ | ⟨ha, ha'⟩ | ha
  · rw [peek_wram ha] at h; cases h; exact ⟨_, busRead_wram ha⟩
  · rw [peek_ppu ha ha'] at h; cases h
  · rw [peek_apu ha ha'] at h; cases h; exact ⟨_, busRead_apu ha ha'⟩
  · rw [peek_fatal ha ha'] at h; cases h
  · rw [peek_prg ha] at h; cases h; exact ⟨_, busRead_prg ha⟩

end

/-- Settles O56: both debug sets are the same set operation, and the peek goes by region. -/
theorem debugPortSetsAndPeeks : Obligations.DebugPortSetsAndPeeks := by
  refine ⟨fun s a b breakpoints watchpoints => ?sets, fun s a => ⟨peek_eq_none_iff, fun v => busRead_of_peek⟩⟩
  case sets =>
    refine ⟨AddrSet.mem_insert, AddrSet.wf_insert breakpoints a, ?_, AddrSet.mem_insert, AddrSet.wf_insert watchpoints a, ?_⟩
    · exact congrArg (fun set => { s with breakpoints := set }) (AddrSet.insert_insert a s.breakpoints)
    · exact congrArg (fun set => { s with watchpoints := set }) (AddrSet.insert_insert a s.watchpoints)

end Sys2Proof.Machine
end

section
/-! PROOFS. The operand part of a trace line (spec/60_exceptions.md R277): by the instruction's operand, with the byte of
the operand read or of the peek. -/

namespace Sys2Proof.Machine

open Sys2Proof.Claims

section
variable {i : Instr} {s t u : State} {l h : Byte}

/-- The claims' read-class list is the model's (R114). -/
theorem readsOperand_iff (i : Instr) : readsOperand i.mnemonic = true ↔ readsFirst i := by
  unfold readsFirst
  cases i.mnemonic <;> decide

theorem lo_zext16 (b : Byte) : lo (zext16 b) = b := by
  apply BitVec.eq_of_toNat_eq
  rw [lo_toNat, zext16_toNat, Nat.mod_eq_of_lt b.isLt]

theorem byte_add_eq_ofNat (a b : Byte) : a + b = BitVec.ofNat 8 (a.toNat + b.toNat) := by
  apply BitVec.eq_of_toNat_eq
  rw [BitVec.toNat_add, BitVec.toNat_ofNat]

theorem addr_add_zext16_eq_ofNat (w : Addr) (b : Byte) : w + zext16 b = BitVec.ofNat 16 (w.toNat + b.toNat) := by
  apply BitVec.eq_of_toNat_eq
  rw [add_zext16_toNat, BitVec.toNat_ofNat]

/-- The addresses of each mode, in the words of the table of R277. -/
theorem traceMemory_eq_memoryText (mn : Mnemonic) (m : MemMode) (s : State) :
    traceMemory mn m s = memoryText m (traceValue mn m s) s := by
  cases m with
  | zeroPageX z | zeroPageY z => simp only [traceMemory, memoryText, effAddress, lo_zext16, byte_add_eq_ofNat]
  | absoluteX w | absoluteY w => simp only [traceMemory, memoryText, effAddress, addr_add_zext16_eq_ofNat]
  | indexedIndirectX z => simp only [traceMemory, memoryText, byte_add_eq_ofNat]
  | _ => rfl

theorem traceOperand_indirect {w : Addr} (operand : i.operand = .indirect w) (low : busRead w s = .ok (l, t))
    (high : busRead (indirectHigh w s.params.jmpIndirectPageWrap) t = .ok (h, u)) :
    traceOperand i s = .indirect w (word l h) := by
  simp only [traceOperand, operand, indirectTarget, readPair_ok low high]

end

/-- Settles O54: by the operand of the instruction; a memory mode shows its addresses and one byte, which R277 takes from
the operand read or from the peek. -/
theorem traceOperandsShowTheByteBefore : Obligations.TraceOperandsShowTheByteBefore := by
  intro i s
  refine ⟨?implied, ?accumulator, ?immediate, ?target, ?relative, ?indirect, ?memory⟩
  case implied => intro operand; simp only [traceOperand, operand]
  case accumulator => intro operand; simp only [traceOperand, operand]
  case immediate => intro v operand; simp only [traceOperand, operand]
  case target => intro w operand; simp only [traceOperand, operand]
  case relative => intro off operand; simp only [traceOperand, operand, branchTarget_eq_ofInt]
  case indirect =>
    intro w operand high l h t u lowRead highRead
    rw [← word_eq_ofNat_wordValue]
    exact traceOperand_indirect operand lowRead (by rw [indirectHigh_eq_ofNat]; exact highRead)
  case memory =>
    intro m operand
    refine ⟨traceValue i.mnemonic m s, ?text, fun reads v t read => ?read, fun others => ?peek⟩
    case text => rw [traceOperand_memory s operand, traceMemory_eq_memoryText]
    case read => exact traceValue_read ((readsOperand_iff i).mpr reads) read
    case peek => exact traceValue_peek m s (Bool.eq_false_iff.mpr (mt (readsOperand_iff i).mp others))

end Sys2Proof.Machine
end

section
/-! PROOFS. A call and its return, a trap and its return (spec/45_control_flow.md R202 to R205, spec/60_exceptions.md R262,
R263): the pulls give back what the pushes saved, at every SP. -/

namespace Sys2Proof.Machine

open Sys2Proof.Claims

section
variable {s t : State} {v sp : Byte} {w : Addr}

theorem stackByte_push_same : stackByte (push v s) s.sp = v := by
  rw [stackByte, push_wram, stackAddr_index, Memory.read_write_same]

theorem stackByte_push_other (other : sp ≠ s.sp) : stackByte (push v s) sp = stackByte s sp := by
  refine Memory.read_write_other _ _ fun same => other ?_
  rw [stackAddr_index] at same
  exact BitVec.eq_of_toNat_eq (by omega)

/-- Where two pushes put the bytes of a word; they are two bytes at every SP. -/
theorem stackByte_pushWord_low : stackByte (pushWord w s) (s.sp - 1) = lo w := stackByte_push_same (s := push (hi w) s)

theorem stackByte_pushWord_high : stackByte (pushWord w s) s.sp = hi w := by
  have other : s.sp ≠ (push (hi w) s).sp := by rw [push_sp]; bv_omega
  rw [pushWord, stackByte_push_other other, stackByte_push_same]

theorem pullWord_fst_of_bytes (low : stackByte s (s.sp + 1) = lo w) (high : stackByte s (s.sp + 2) = hi w) :
    (pullWord s).1 = w := by
  rw [pullWord_eq_pulled, low, high, ← word_eq_ofNat_wordValue, word_lo_hi]

/-- The pushed status byte restores the flags it was taken from, whatever I is now: bits 5 and 4 are not read (R29,
R191). -/
theorem Flags.restore_pushed (f : Flags) (i : Bool) : { f with i := i }.restore f.pushed = f := by
  simp [Flags.restore, Flags.pushed, Flags.encode, BitVec.append_ofBool, BitVec.getElem_concat]

/-- What trap entry leaves of the registers, and on the stack (R204, R262). -/
theorem takeBreak_saves (s : State) : ∃ t, takeBreak s = .ok t ∧ t.a = s.a ∧ t.x = s.x ∧ t.y = s.y ∧
    t.p = { s.p with i := true } ∧ t.sp = s.sp - 3 ∧
    t.wram = (push s.p.pushed (pushWord (s.pc + 2) s)).wram := by
  refine ⟨_, takeBreak_eq s, ?_⟩
  simp only [pushWord_eq_push, touch_a, touch_x, touch_y, touch_sp, touch_wram, push_a, push_x, push_y, push_sp, true_and,
    and_true]
  bv_omega

/-- The three saved bytes, from the top: the word's high byte, its low byte, the status byte. -/
theorem saved_bytes (p : Byte) (w : Addr) (s : State) : let t := push p (pushWord w s)
    stackByte t (s.sp - 2) = p ∧ stackByte t (s.sp - 1) = lo w ∧ stackByte t s.sp = hi w := by
  intro t
  have third := pushWord_sp w s
  refine ⟨third ▸ stackByte_push_same, ?low, ?high⟩
  case low => rw [stackByte_push_other (by rw [third]; bv_omega), stackByte_pushWord_low]
  case high => rw [stackByte_push_other (by rw [third]; bv_omega), stackByte_pushWord_high]

end

/-- Settles O47: RTS pulls the word JSR pushed, and goes one past it. -/
theorem jsrThenRtsReturns : Obligations.JsrThenRtsReturns := by
  intro w s
  refine ⟨_, _, exec_jsr w s, exec_rts _, ?pc, ?sp, rfl, rfl, rfl, rfl⟩
  case pc =>
    have ret : (pullWord (pushWord (s.pc + 2) s)).1 = s.pc + 2 := by
      have saved := pushWord_sp (s.pc + 2) s
      apply pullWord_fst_of_bytes
      · rw [saved, show s.sp - 2 + 1 = s.sp - 1 by bv_omega, stackByte_pushWord_low]
      · rw [saved, BitVec.sub_add_cancel, stackByte_pushWord_high]
    show (pullWord (pushWord (s.pc + 2) s)).1 + 1 = s.pc + 3
    rw [ret, BitVec.add_assoc]
    rfl
  case sp =>
    show s.sp - 1 - 1 + 1 + 1 = s.sp
    bv_omega

/-- Settles O48: RTI pulls the three bytes BRK pushed, and the status byte still holds the old I. -/
theorem brkThenRtiReturns : Obligations.BrkThenRtiReturns := by
  intro s
  obtain ⟨t, entered, a, x, y, p, sp, wram⟩ := takeBreak_saves s
  obtain ⟨status, low, high⟩ := saved_bytes s.p.pushed (s.pc + 2) s
  have byte (k : Byte) : stackByte t k = stackByte (push s.p.pushed (pushWord (s.pc + 2) s)) k := by
    rw [stackByte, wram, stackByte]
  have afterStatus : (pulled t).sp = s.sp - 2 := by rw [pulled_sp, sp]; bv_omega
  refine ⟨_, _, exec_brk_of_ok entered, congrArg Flags.i p, exec_rti _, ?target, ?stack, a, x, y, ?flags⟩
  case target =>
    show (pullWord (pulled t)).1 = s.pc + 2
    apply pullWord_fst_of_bytes
    · rw [afterStatus, stackByte_pulled, byte, show s.sp - 2 + 1 = s.sp - 1 by bv_omega, low]
    · rw [afterStatus, stackByte_pulled, byte, BitVec.sub_add_cancel, high]
  case stack =>
    show t.sp + 1 + 1 + 1 = s.sp
    rw [sp]; bv_omega
  case flags =>
    show t.p.restore (pull t).1 = s.p
    rw [p, pull_eq_pulled, byte, sp, show s.sp - 3 + 1 = s.sp - 2 by bv_omega, status, Flags.restore_pushed]

end Sys2Proof.Machine
end

section
/-! PROOFS. The remaining statements: ADC's sum and signed overflow (spec/42_arith_logic.md R150), the cartridge load and
the reset state (spec/70_reset_and_hazards.md R290 to R297), and words of the opcode table. -/

namespace Sys2Proof.Machine

open Sys2Proof.Claims

/-! ### ADC -/

theorem exec_adcImm (v : Byte) (s : State) : exec (.adcImm v) s = .next (finish 2 2 (addToA v s)) := rfl

/-- The mask 0x80 reads the sign bit. -/
theorem and_signMask_ne_zero_iff (b : Byte) : b &&& 0x80 ≠ 0 ↔ b.msb = true := by
  rw [show (0x80 : Byte) = BitVec.twoPow 8 7 from rfl, BitVec.and_twoPow, BitVec.msb_eq_getLsbD_last]
  cases b.getLsbD 7 <;> decide

/-- V is set when the operands have one sign and the result has the other (R150). -/
theorem Flags.add_v (f : Flags) (a v : Byte) :
    (f.add a v).v = true ↔ a.msb = v.msb ∧ a.msb ≠ (addResult a v f.c).msb := by
  rw [Flags.add_eq, nz, decide_eq_true_iff, and_signMask_ne_zero_iff]
  simp [BitVec.msb_and, BitVec.msb_xor, BitVec.msb_not]

/-- One sign and another one of the result is a signed sum outside the range of a byte. -/
theorem signs_differ_iff (a v : Byte) (c : Bool) : (a.msb = v.msb ∧ a.msb ≠ (addResult a v c).msb) ↔
    (a.toInt + v.toInt + (bit c : Int) < -128 ∨ 127 < a.toInt + v.toInt + (bit c : Int)) := by
  have := a.isLt
  have := v.isLt
  have := bit_lt_two c
  have result : (addResult a v c).toNat = (a.toNat + v.toNat + bit c) % 256 := by
    rw [addResult, BitVec.toNat_ofNat, addSum_eq_bit]
  simp only [BitVec.toInt_eq_msb_cond, BitVec.msb_eq_decide, result, decide_eq_true_eq, decide_eq_decide, ne_eq]
  split_ifs <;> omega

/-- Settles O21: the carry completes the 9-bit sum, and V compares the three signs. -/
theorem adcOverflowIsSignedOverflow : Obligations.AdcOverflowIsSignedOverflow := by
  intro s v
  refine ⟨_, exec_adcImm v s, ?sum, ?overflow⟩
  case sum =>
    rw [bit_eq_toNat, ← addSum_eq_bit]
    exact addSum_toNat s.a v s.p.c
  case overflow => exact (s.p.add_v s.a v).trans (signs_differ_iff s.a v s.p.c)

/-! ### The cartridge load -/

section
variable {file : List Byte} {size : BankSize}

theorem loadCartridge_trainer (trainer : (headerByte file 6).getLsbD 2 = true) :
    loadCartridge file = .error .trainerPresent := by
  rw [loadCartridge, if_pos trainer]

theorem loadCartridge_badSize (trainer : (headerByte file 6).getLsbD 2 = false) (bad : bankSizeOf (headerByte file 4) = none) :
    loadCartridge file = .error (.badPrgSize (headerByte file 4)) := by
  simp only [loadCartridge, trainer, bad, Bool.false_eq_true, if_false]

theorem loadCartridge_short (trainer : (headerByte file 6).getLsbD 2 = false)
    (admitted : bankSizeOf (headerByte file 4) = some size)
    (short : file.length < 16 + size.bytes + 8192 * (headerByte file 5).toNat) :
    loadCartridge file = .error (.badPrgSize (headerByte file 4)) := by
  simp only [loadCartridge, trainer, admitted, Bool.false_eq_true, if_false, short, if_true]

theorem loadCartridge_ok (trainer : (headerByte file 6).getLsbD 2 = false)
    (admitted : bankSizeOf (headerByte file 4) = some size)
    (long : ¬ file.length < 16 + size.bytes + 8192 * (headerByte file 5).toNat) :
    loadCartridge file = .ok ⟨size, Memory.ofBytes 0 ((file.drop 16).take size.bytes)⟩ := by
  simp only [loadCartridge, trainer, admitted, Bool.false_eq_true, if_false, long]

/-- The admitted sizes, and no other (R59). -/
theorem bankSizeOf_eq_none {units : Byte} (bad : ¬ (units.toNat = 1 ∨ units.toNat = 2)) : bankSizeOf units = none := by
  have one : units ≠ 1 := by rintro rfl; exact bad (.inl rfl)
  have two : units ≠ 2 := by rintro rfl; exact bad (.inr rfl)
  rw [bankSizeOf, if_neg one, if_neg two]

theorem bankSizeOf_eq_some {units : Byte} (admitted : units.toNat = 1 ∨ units.toNat = 2) :
    ∃ size, bankSizeOf units = some size ∧ size.bytes = 16384 * units.toNat := by
  rcases admitted with one | two
  · have units_eq : units = 1 := BitVec.eq_of_toNat_eq one
    subst units_eq
    exact ⟨.k16, rfl, rfl⟩
  · have units_eq : units = 2 := BitVec.eq_of_toNat_eq two
    subst units_eq
    exact ⟨.k32, rfl, rfl⟩

/-- The PRG array holds the file's bytes after the header (R297). -/
theorem read_prgBytes (n k : Nat) (h : k < n) :
    (Memory.ofBytes 0 ((file.drop 16).take n)).read k = file.getD (16 + k) 0 := by
  have bytes := Memory.read_ofBytes 0 ((file.drop 16).take n) k
  rw [Nat.zero_add] at bytes
  rw [bytes, List.getD_eq_getElem?_getD, List.getD_eq_getElem?_getD, List.getElem?_take_of_lt h, List.getElem?_drop]
  rfl

end

/-- Settles O8: the three tests of the load in their order, then the array of the bytes after the header. -/
theorem cartridgeLoadRefusesOrYieldsThePrgBytes : Obligations.CartridgeLoadRefusesOrYieldsThePrgBytes := by
  intro file units chr trainer
  refine ⟨loadCartridge_trainer, fun noTrainer bad => loadCartridge_badSize noTrainer (bankSizeOf_eq_none bad),
    fun noTrainer admitted short => ?short, fun noTrainer admitted long => ?long⟩
  case short =>
    obtain ⟨size, entry, bytes⟩ := bankSizeOf_eq_some admitted
    exact loadCartridge_short noTrainer entry (by rw [bytes]; exact short)
  case long =>
    obtain ⟨size, entry, bytes⟩ := bankSizeOf_eq_some admitted
    refine ⟨_, loadCartridge_ok noTrainer entry (by rw [bytes]; exact long.not_gt), bytes, ?canonical, fun k hk => ?byte⟩
    case canonical => exact Memory.wf_ofBytes (List.length_take_le _ _)
    case byte => exact read_prgBytes _ k (bytes.symm ▸ hk)

/-! ### The reset state -/

/-- Settles O7: the two agree field by field; the records are boot values. -/
theorem resetIsTheBootOfAnEmptyCartridge : Obligations.ResetIsTheBootOfAnEmptyCartridge :=
  ⟨rfl, fun cart ps w b => ⟨boot_busHistory cart ps w b, boot_trace cart ps w b⟩⟩

/-! ### Words of the opcode table -/

/-- Settles O4: each word is the encoding of its instruction, and decoding an encoding gives the instruction back (O1). -/
theorem specWordsDecode : Obligations.SpecWordsDecode := by
  have word (i : Instr) : decode (encode i) = .ok (i, []) := by
    rw [← List.append_nil (encode i)]; exact decodeEncodeRoundTrip i []
  exact ⟨word (.ldaImm 0x10), word (.ldaAbsX 0x00FF), word (.staAbs 0x0400), word (.sbcImm 0x01), word (.rorZp 0x10),
    word .plp, word (.jsr 0xC72D), word (.jmpInd 0x02FF), word (.bne 0xFB), word .clv, word (.dcpZp 0x10),
    word (.uNopAbsX1C 0x00FF)⟩

end Sys2Proof.Machine
end
